-- ==== Sys2Proof/Word.lean ====
section
/-! DEFINITION. The word types of the BX720's lines and link frames (spec/11, section 11.6; spec/00, Units). -/

namespace Sys2Proof

/-- A character of the host link or of the extensometer line. -/
abbrev Byte := BitVec 8

/-- A four-byte field of a link frame, and the millisecond clock. -/
abbrev Word32 := BitVec 32

end Sys2Proof
end

