-- ==== Sys2Proof/Config.lean ====
section
/-! DEFINITION. The free values: results the spec leaves unstated. Each is an opaque constant without a body, applied to
the value the model computed, so that no proof can see what the hardware yields there. -/

namespace Sys2Proof.Config

/-- What a product or sum that the spec forms "in 64-bit" yields when it leaves the signed 64-bit range (log 16). -/
opaque overflow64 : Int → Int

/-- What a product or sum that R34, R35 or R165 forms "in 128-bit arithmetic" yields when it leaves that range (log 16). -/
opaque overflow128 : Int → Int

/-- The filtered force when the mean of the window leaves the signed 32-bit range of spec/03 (log 18). -/
opaque overflow32 : Int → Int

/-- The four bytes of a reported or recorded value that does not fit its 32-bit field (log 17). -/
opaque unfit32 : Int → Word32

/-- The eight bytes of a reported value that does not fit its 64-bit field (log 17). -/
opaque unfit64 : Int → BitVec 64

end Sys2Proof.Config
end

