-- ==== Sys2Proof/Machine/Arith.lean ====
section
/-! DEFINITION. The arithmetic conventions of spec/00 (Rounding) and the widths its rules form their products in. -/

namespace Sys2Proof.Machine

/-- The quotient rounded to the nearest integer, ties away from zero; the divisor is positive wherever a rule divides. -/
def roundDiv (n d : Int) : Int :=
  if 0 ≤ n then (2 * n + d) / (2 * d) else -((2 * (-n) + d) / (2 * d))

/-- Limits a value to a range. -/
def limit (lo hi x : Int) : Int := if x < lo then lo else if hi < x then hi else x

/-- The value lies in the signed range of this many bits. -/
def fits (bits : Nat) (x : Int) : Bool := -(2 ^ (bits - 1)) ≤ x ∧ x < 2 ^ (bits - 1)

/-- Set to the nearest end of the signed 32-bit range where it lies outside (R54, R90). -/
def sat32 (x : Int) : Int := limit (-2147483648) 2147483647 x

/-- Set to the nearest end of the signed 64-bit range where it lies outside (R34, R40, R160). -/
def sat64 (x : Int) : Int := limit (-9223372036854775808) 9223372036854775807 x

/-- A value formed in 64-bit: unstated where it leaves the range (DESIGN CHOICE, log 16). -/
def form64 (x : Int) : Int := if fits 64 x then x else Config.overflow64 x

/-- A value formed in 128-bit: unstated where it leaves the range (DESIGN CHOICE, log 16). -/
def form128 (x : Int) : Int := if fits 128 x then x else Config.overflow128 x

/-- The filtered force: unstated where the mean leaves the signed 32-bit range (DESIGN CHOICE, log 18). -/
def form32 (x : Int) : Int := if fits 32 x then x else Config.overflow32 x

/-- A signed value as a 32-bit field; unstated where it does not fit (DESIGN CHOICE, log 17). -/
def signed32 (x : Int) : Word32 := if fits 32 x then BitVec.ofInt 32 x else Config.unfit32 x

/-- An unsigned value as a 32-bit field; unstated where it does not fit (DESIGN CHOICE, log 17). -/
def unsigned32 (x : Int) : Word32 := if 0 ≤ x ∧ x < 4294967296 then BitVec.ofInt 32 x else Config.unfit32 x

/-- A signed value as a 64-bit field; unstated where it does not fit (DESIGN CHOICE, log 17). -/
def signed64 (x : Int) : BitVec 64 := if fits 64 x then BitVec.ofInt 64 x else Config.unfit64 x

/-- A count that rises by `by_` and stops at `top`. -/
def saturate (top n by_ : Nat) : Nat := min top (n + by_)

/-- The sum of a list of forces. -/
def sumOf (xs : List Int) : Int := xs.foldl (· + ·) 0

/-- A running single-shot timer counts one millisecond down, stopping at 0 (log 3). -/
def countDown (t : Option Nat) : Option Nat := t.map (· - 1)

/-- The force in N, rounded, of a force in mN. -/
def newtons (milli : Int) : Int := roundDiv milli 1000

/-- Stress in kPa of a force in mN on a cross-section in 0.001 mm² (spec/00, Quantities; R154). -/
def stressOf (force s0 : Int) : Int := roundDiv (form64 (force * 1000)) s0

/-- A stress or stress rate times the cross-section, as a force or force rate (R111, R158). -/
def forceOfStress (stress s0 : Int) : Int := roundDiv (form64 (stress * s0)) 1000

end Sys2Proof.Machine
end

