-- ==== Sys2Proof/Syntax.lean ====
section
/-! DEFINITION. The commands of the BX720: one constructor of `Instr` for each row of spec/opcode_table.json, with the
operands the outside world gives, and the requests of the host's directory (spec/11, section 11.6) with their fields as
they are sent. -/

namespace Sys2Proof

/-- The 31 event kinds of spec/10, section 10.1, in the order of their codes. -/
inductive EventKind where
  | driveReady | testStarted | stageEntered | fitClosed | yieldFound | fmaxPassed | extRemoved | breakDetected
  | testEnded | resultReady | returnDone | watchFired | heldEntered | moveIncomplete | rateClamped | extCheck
  | extSlip | linkRxError | streamLoss | fitInvalid | extGap | extLost | extRemovalTimeout | travelLimit
  | forceOverrange | forceLimit | estop | limitSwitch | driveTimeout | driveLost | overload
deriving DecidableEq, Repr

/-- The three watched cabinet inputs (R16). -/
inductive CabinetInput where
  | estop | upperLimit | lowerLimit
deriving DecidableEq, Repr

/-- How drive ready ceases to be seen (R12): the ready input drops, or the fault input is asserted. -/
inductive DriveCease where
  | readyDropped | faultAsserted
deriving DecidableEq, Repr

/-- The levels of the input lines: sampled at power-on, and kept as the latest command left them. -/
structure Inputs where
  /-- the E-stop input is asserted (R16) -/
  estop : Bool
  /-- the upper limit switch is asserted (R16) -/
  upper : Bool
  /-- the lower limit switch is asserted (R16) -/
  lower : Bool
  /-- the drive ready input (R10) -/
  driveReady : Bool
  /-- the drive fault input (R12) -/
  driveFault : Bool
  /-- the extensometer's presence input (R72) -/
  presence : Bool
  /-- the lift arm's retracted input (R96) -/
  retracted : Bool
  /-- the host ready line (R195) -/
  hostReady : Bool
deriving DecidableEq, Repr

/-- A specimen ID as sent: a length byte and sixteen character places (section 11.6). -/
structure RawId where
  length : Byte
  places : List Byte
deriving DecidableEq, Repr

/-- A calibration point as sent: raw ADC count and force in mN, each signed. -/
structure RawPoint where
  raw : Word32
  force : Word32
deriving DecidableEq, Repr

/-- The body of DEFINE_FRAME as sent (R3): six scalars, the point count it carries and the points it carries. -/
structure RawDefinition where
  capacity : Word32
  vmax : Word32
  travelMin : Word32
  travelMax : Word32
  nmPerCount : Word32
  compliance : Word32
  count : Byte
  points : List RawPoint
deriving DecidableEq, Repr

/-- A stage record as sent: fourteen bytes, the two end kinds in one byte (section 11.6). -/
structure RawStage where
  channel : Byte
  kind1 : BitVec 4
  kind2 : BitVec 4
  rate : Word32
  value1 : Word32
  value2 : Word32
deriving DecidableEq, Repr

/-- A program record as sent (R108), its fields in index order. -/
structure RawProgram where
  stageCount : Byte
  extRequired : Byte
  extLostAction : Byte
  removalStrain : Word32
  removeAtNecking : Byte
  removeBefore : Byte
  removalTime : Word32
  fitLower : Word32
  fitUpper : Word32
  rpOffset : Word32
  yieldDrop : Word32
  guardStrain : Word32
  margin : Word32
  neckingThreshold : Word32
  breakPct : Word32
  suddenPct : Word32
  breakMin : Word32
  forceLimit : Word32
  autoTare : Byte
  returnEnabled : Byte
  returnSpeed : Word32
  holdMode : Byte
  timersInHold : Byte
  streamInHold : Byte
  markerMode : Byte
  stages : List RawStage
deriving DecidableEq, Repr

/-- The body of ADD_SPECIMEN as sent (R140). -/
structure RawSpecimen where
  id : RawId
  slot : Byte
  shape : Byte
  dim1 : Word32
  dim2 : Word32
  parallel : Word32
deriving DecidableEq, Repr

/-- The body of SET_WATCH after its index, as sent (R126). -/
structure RawWatch where
  enabled : Byte
  quantity : Byte
  level : Word32
  direction : Byte
  action : Byte
  rearm : Byte
  hysteresis : Word32
deriving DecidableEq, Repr

/-- A request of the directory of section 11.6, with the fields of its body. DEFINE_FRAME and LOAD_PROGRAM carry no record
where the body's length does not agree with the count it carries (R3, R108). -/
inductive Request where
  | defineFrame (d : Option RawDefinition)
  | commitFrame
  | setLoop (channel : Byte) (kp ki kf : Word32)
  | driveOn
  | driveOff
  | clearFault
  | jog (speed : Word32)
  | moveTo (target speed : Word32)
  | stopMove
  | setPosition (value : Word32)
  | setOverride (percent : BitVec 16)
  | tare
  | setFilter (n : Byte)
  | zeroExt (gauge : Word32)
  | loadProgram (slot : Byte) (program : Option RawProgram)
  | addSpecimen (specimen : RawSpecimen)
  | dropSpecimen (id : RawId)
  | readQueue (first : Byte)
  | testStart
  | abortTest
  | holdTest
  | clearHold (causes : Byte)
  | resumeTest
  | setWatch (index : Byte) (watch : RawWatch)
  | readResult (id : Option RawId)
  | deleteResult (id : RawId)
  | setReporting (kinds : Word32)
  | setSeverity (kind severity : Byte)
  | readEvents
  | clearEvents (kinds : Word32)
  | injectEvent (kind : Byte)
  | setStream (period : BitVec 16) (idle : Byte)
  | streamOn
  | streamOff
  | getStatus (group : Byte)
  | describe
  | reset
deriving DecidableEq, Repr

/-- The commands: one constructor per row of spec/opcode_table.json, in the table's order. A request's first operand is
the TAG of its link frame. -/
inductive Instr where
  | powerOn (levels : Inputs)
  | servoUpdate (encoder : Word32) (retractedStill : Bool)
  | conversion (raw : BitVec 24)
  | defineFrame (tag : Byte) (d : RawDefinition)
  | commitFrame (tag : Byte)
  | setLoop (tag channel : Byte) (kp ki kf : Word32)
  | driveOn (tag : Byte)
  | driveOff (tag : Byte)
  | clearFault (tag : Byte)
  | jog (tag : Byte) (speed : Word32)
  | moveTo (tag : Byte) (target speed : Word32)
  | stopMove (tag : Byte)
  | setPosition (tag : Byte) (value : Word32)
  | setOverride (tag : Byte) (percent : BitVec 16)
  | tare (tag : Byte)
  | setFilter (tag n : Byte)
  | zeroExt (tag : Byte) (gauge : Word32)
  | loadProgram (tag slot : Byte) (program : RawProgram)
  | addSpecimen (tag : Byte) (specimen : RawSpecimen)
  | dropSpecimen (tag : Byte) (id : RawId)
  | readQueue (tag first : Byte)
  | testStart (tag : Byte)
  | abortTest (tag : Byte)
  | holdTest (tag : Byte)
  | clearHold (tag causes : Byte)
  | resumeTest (tag : Byte)
  | setWatch (tag index : Byte) (watch : RawWatch)
  | readResult (tag : Byte) (id : Option RawId)
  | deleteResult (tag : Byte) (id : RawId)
  | setReporting (tag : Byte) (kinds : Word32)
  | setSeverity (tag kind severity : Byte)
  | readEvents (tag : Byte)
  | clearEvents (tag : Byte) (kinds : Word32)
  | injectEvent (tag kind : Byte)
  | setStream (tag : Byte) (period : BitVec 16) (idle : Byte)
  | streamOn (tag : Byte)
  | streamOff (tag : Byte)
  | getStatus (tag group : Byte)
  | describe (tag : Byte)
  | reset (tag : Byte)
  | unknownKind (kind tag : Byte) (body : List Byte)
  | driveReadySeen
  | driveReadyCeases (cause : DriveCease)
  | driveEnableTimerExpiry
  | cabinetInputAsserted (input : CabinetInput)
  | cabinetInputReleased (input : CabinetInput)
  | settleTimerExpiry
  | stageTimerExpiry
  | sequencerTestPoint
  | watchTestPoint
  | evaluationTestPoint
  | removalTriggerTestPoint
  | yieldNotice
  | fmaxPassedNotice
  | neckingNotice
  | namedStageNotice
  | watchRemovalTrigger
  | nextStage
  | breakDetectionTestEnd
  | strainSourceTestEnd
  | extByte (b : Byte)
  | extByteTimerExpiry
  | presenceDeasserted
  | presenceAsserted
  | receiverEntersLocked
  | receiverLeavesLocked
  | retractedInputRises
  | removalTimerExpiry
  | eventOccurrence (kind : EventKind) (detail : Word32)
  | hostByte (b : Byte)
  | rxByteTimerExpiry
  | hostReadyChange (level : Bool)
  | transmitFrameEnd
  | streamPeriodExpiry
deriving DecidableEq, Repr

end Sys2Proof
end

