-- ==== Sys2Proof/Decode.lean ====
section
/-! DEFINITION. Reading bits. The table gives no row any bits, so `decodeTableWord` answers none. What the module does read
from bits is the body of a request frame (spec/11, section 11.6): `readRequest` reads it, `writeRequest` writes it. -/

namespace Sys2Proof

/-- The command a word spells by the bits of spec/opcode_table.json: the table gives no row any bits. -/
def decodeTableWord (_nbits _w : Nat) : Option Instr := none

/-- The four bytes of a field, least significant byte first (section 11.6). -/
def bytes32 (w : Word32) : List Byte :=
  [w.extractLsb' 0 8, w.extractLsb' 8 8, w.extractLsb' 16 8, w.extractLsb' 24 8]

/-- The two bytes of a 16-bit field, least significant byte first. -/
def bytes16 (w : BitVec 16) : List Byte := [w.extractLsb' 0 8, w.extractLsb' 8 8]

/-- The eight bytes of a 64-bit field, least significant byte first. -/
def bytes64 (w : BitVec 64) : List Byte :=
  bytes32 (w.extractLsb' 0 32) ++ bytes32 (w.extractLsb' 32 32)

/-- Four bytes read as a field, least significant byte first. -/
def word32 (b0 b1 b2 b3 : Byte) : Word32 := b3 ++ (b2 ++ (b1 ++ b0))

/-- The byte at an offset of a body (0 beyond its end; the readers check the length first). -/
def at8 (body : List Byte) (i : Nat) : Byte := body.getD i 0

/-- The 16-bit field at an offset of a body. -/
def at16 (body : List Byte) (i : Nat) : BitVec 16 := at8 body (i + 1) ++ at8 body i

/-- The 32-bit field at an offset of a body. -/
def at32 (body : List Byte) (i : Nat) : Word32 :=
  word32 (at8 body i) (at8 body (i + 1)) (at8 body (i + 2)) (at8 body (i + 3))

/-- The 17-byte ID field at an offset of a body. -/
def atId (body : List Byte) (i : Nat) : RawId :=
  { length := at8 body i, places := (body.drop (i + 1)).take 16 }

/-- An ID as it is sent: its length byte and its sixteen places. -/
def idBytes (id : RawId) : List Byte := id.length :: id.places

/-- The calibration points of a DEFINE_FRAME body, eight bytes each. -/
def readPoints : Nat → List Byte → List RawPoint
  | 0, _ => []
  | n + 1, bytes => { raw := at32 bytes 0, force := at32 bytes 4 } :: readPoints n (bytes.drop 8)

/-- The DEFINE_FRAME record of a body, none when the length does not agree with the point count or the count exceeds 9 (R3). -/
def readDefinition (body : List Byte) : Option RawDefinition :=
  let count := at8 body 24
  if body.length = 25 + 8 * count.toNat ∧ count.toNat ≤ 9 then
    some { capacity := at32 body 0, vmax := at32 body 4, travelMin := at32 body 8, travelMax := at32 body 12,
           nmPerCount := at32 body 16, compliance := at32 body 20, count := count,
           points := readPoints count.toNat (body.drop 25) }
  else none

/-- The body of a DEFINE_FRAME. -/
def definitionBytes (d : RawDefinition) : List Byte :=
  bytes32 d.capacity ++ bytes32 d.vmax ++ bytes32 d.travelMin ++ bytes32 d.travelMax ++ bytes32 d.nmPerCount ++
    bytes32 d.compliance ++ [d.count] ++ d.points.flatMap fun p => bytes32 p.raw ++ bytes32 p.force

/-- The points a DEFINE_FRAME carries agree with its point count, which is at most 9 (R3). -/
def RawDefinition.agrees (d : RawDefinition) : Bool := d.points.length = d.count.toNat ∧ d.count.toNat ≤ 9

/-- The stage records of a LOAD_PROGRAM body, fourteen bytes each; kind 1 lies in the low four bits of its byte. -/
def readStages : Nat → List Byte → List RawStage
  | 0, _ => []
  | n + 1, bytes =>
    { channel := at8 bytes 0, kind1 := (at8 bytes 1).extractLsb' 0 4, kind2 := (at8 bytes 1).extractLsb' 4 4,
      rate := at32 bytes 2, value1 := at32 bytes 6, value2 := at32 bytes 10 } :: readStages n (bytes.drop 14)

/-- The stage record as it is sent. -/
def stageBytes (g : RawStage) : List Byte :=
  [g.channel, g.kind2 ++ g.kind1] ++ bytes32 g.rate ++ bytes32 g.value1 ++ bytes32 g.value2

/-- The program record of a LOAD_PROGRAM body (its slot byte included), none when the length does not agree with the stage
count; a stage count above 12 agrees with no length (R108). -/
def readProgram (body : List Byte) : Option RawProgram :=
  let count := at8 body 1
  if body.length = 68 + 14 * count.toNat ∧ count.toNat ≤ 12 then
    some { stageCount := count, extRequired := at8 body 2, extLostAction := at8 body 3, removalStrain := at32 body 4,
           removeAtNecking := at8 body 8, removeBefore := at8 body 9, removalTime := at32 body 10,
           fitLower := at32 body 14, fitUpper := at32 body 18, rpOffset := at32 body 22, yieldDrop := at32 body 26,
           guardStrain := at32 body 30, margin := at32 body 34, neckingThreshold := at32 body 38,
           breakPct := at32 body 42, suddenPct := at32 body 46, breakMin := at32 body 50, forceLimit := at32 body 54,
           autoTare := at8 body 58, returnEnabled := at8 body 59, returnSpeed := at32 body 60, holdMode := at8 body 64,
           timersInHold := at8 body 65, streamInHold := at8 body 66, markerMode := at8 body 67,
           stages := readStages count.toNat (body.drop 68) }
  else none

/-- The program record as it is sent, after the slot byte: 67 bytes and the stages. -/
def programBytes (p : RawProgram) : List Byte :=
  [p.stageCount, p.extRequired, p.extLostAction] ++ bytes32 p.removalStrain ++ [p.removeAtNecking, p.removeBefore] ++
    bytes32 p.removalTime ++ bytes32 p.fitLower ++ bytes32 p.fitUpper ++ bytes32 p.rpOffset ++ bytes32 p.yieldDrop ++
    bytes32 p.guardStrain ++ bytes32 p.margin ++ bytes32 p.neckingThreshold ++ bytes32 p.breakPct ++
    bytes32 p.suddenPct ++ bytes32 p.breakMin ++ bytes32 p.forceLimit ++ [p.autoTare, p.returnEnabled] ++
    bytes32 p.returnSpeed ++ [p.holdMode, p.timersInHold, p.streamInHold, p.markerMode] ++ p.stages.flatMap stageBytes

/-- The stages a LOAD_PROGRAM carries agree with its stage count, which is at most 12 (R108). -/
def RawProgram.agrees (p : RawProgram) : Bool := p.stages.length = p.stageCount.toNat ∧ p.stageCount.toNat ≤ 12

/-- The ADD_SPECIMEN record of a 31-byte body. -/
def readSpecimen (body : List Byte) : RawSpecimen :=
  { id := atId body 0, slot := at8 body 17, shape := at8 body 18, dim1 := at32 body 19, dim2 := at32 body 23,
    parallel := at32 body 27 }

/-- The body of an ADD_SPECIMEN. -/
def specimenBytes (r : RawSpecimen) : List Byte :=
  idBytes r.id ++ [r.slot, r.shape] ++ bytes32 r.dim1 ++ bytes32 r.dim2 ++ bytes32 r.parallel

/-- The SET_WATCH fields of a 14-byte body, after the index. -/
def readWatch (body : List Byte) : RawWatch :=
  { enabled := at8 body 1, quantity := at8 body 2, level := at32 body 3, direction := at8 body 7, action := at8 body 8,
    rearm := at8 body 9, hysteresis := at32 body 10 }

/-- The body of a SET_WATCH after its index. -/
def watchBytes (w : RawWatch) : List Byte :=
  [w.enabled, w.quantity] ++ bytes32 w.level ++ [w.direction, w.action, w.rearm] ++ bytes32 w.hysteresis

/-- What the link reads from the KIND and body of a request frame (R194). -/
inductive ReadOutcome where
  /-- a request of the directory, with its fields -/
  | request (r : Request)
  /-- the body's length does not fit the request -/
  | badLength
  /-- the KIND names no request of the directory -/
  | unknownKind
deriving DecidableEq, Repr

/-- A request of fixed body length: any other length is BAD_LENGTH before the request's own checks (R194). -/
def sized (body : List Byte) (n : Nat) (r : Request) : ReadOutcome :=
  if body.length = n then .request r else .badLength

/-- The request that a frame of this KIND and body carries, by the directory of section 11.6. -/
def readRequest (kind : Byte) (body : List Byte) : ReadOutcome :=
  match kind.toNat with
  | 0x01 => .request (.defineFrame (readDefinition body))
  | 0x02 => sized body 0 .commitFrame
  | 0x03 => sized body 13 (.setLoop (at8 body 0) (at32 body 1) (at32 body 5) (at32 body 9))
  | 0x04 => sized body 0 .driveOn
  | 0x05 => sized body 0 .driveOff
  | 0x06 => sized body 0 .clearFault
  | 0x07 => sized body 4 (.jog (at32 body 0))
  | 0x08 => sized body 8 (.moveTo (at32 body 0) (at32 body 4))
  | 0x09 => sized body 0 .stopMove
  | 0x0A => sized body 4 (.setPosition (at32 body 0))
  | 0x0B => sized body 2 (.setOverride (at16 body 0))
  | 0x0C => sized body 0 .tare
  | 0x0D => sized body 1 (.setFilter (at8 body 0))
  | 0x0E => sized body 4 (.zeroExt (at32 body 0))
  | 0x10 => if body.length = 0 then .badLength else .request (.loadProgram (at8 body 0) (readProgram body))
  | 0x11 => sized body 31 (.addSpecimen (readSpecimen body))
  | 0x12 => sized body 17 (.dropSpecimen (atId body 0))
  | 0x13 => sized body 1 (.readQueue (at8 body 0))
  | 0x14 => sized body 0 .testStart
  | 0x15 => sized body 0 .abortTest
  | 0x16 => sized body 0 .holdTest
  | 0x17 => sized body 1 (.clearHold (at8 body 0))
  | 0x18 => sized body 0 .resumeTest
  | 0x19 => sized body 14 (.setWatch (at8 body 0) (readWatch body))
  | 0x1A => if body.length = 0 then .request (.readResult none) else sized body 17 (.readResult (some (atId body 0)))
  | 0x1B => sized body 17 (.deleteResult (atId body 0))
  | 0x20 => sized body 4 (.setReporting (at32 body 0))
  | 0x21 => sized body 2 (.setSeverity (at8 body 0) (at8 body 1))
  | 0x22 => sized body 0 .readEvents
  | 0x23 => sized body 4 (.clearEvents (at32 body 0))
  | 0x24 => sized body 1 (.injectEvent (at8 body 0))
  | 0x28 => sized body 3 (.setStream (at16 body 0) (at8 body 2))
  | 0x29 => sized body 0 .streamOn
  | 0x2A => sized body 0 .streamOff
  | 0x30 => sized body 1 (.getStatus (at8 body 0))
  | 0x31 => sized body 0 .describe
  | 0x3F => sized body 0 .reset
  | _ => .unknownKind

/-- The request code of the directory (section 11.6). -/
def Request.code : Request → Byte
  | .defineFrame _ => 0x01
  | .commitFrame => 0x02
  | .setLoop _ _ _ _ => 0x03
  | .driveOn => 0x04
  | .driveOff => 0x05
  | .clearFault => 0x06
  | .jog _ => 0x07
  | .moveTo _ _ => 0x08
  | .stopMove => 0x09
  | .setPosition _ => 0x0A
  | .setOverride _ => 0x0B
  | .tare => 0x0C
  | .setFilter _ => 0x0D
  | .zeroExt _ => 0x0E
  | .loadProgram _ _ => 0x10
  | .addSpecimen _ => 0x11
  | .dropSpecimen _ => 0x12
  | .readQueue _ => 0x13
  | .testStart => 0x14
  | .abortTest => 0x15
  | .holdTest => 0x16
  | .clearHold _ => 0x17
  | .resumeTest => 0x18
  | .setWatch _ _ => 0x19
  | .readResult _ => 0x1A
  | .deleteResult _ => 0x1B
  | .setReporting _ => 0x20
  | .setSeverity _ _ => 0x21
  | .readEvents => 0x22
  | .clearEvents _ => 0x23
  | .injectEvent _ => 0x24
  | .setStream _ _ => 0x28
  | .streamOn => 0x29
  | .streamOff => 0x2A
  | .getStatus _ => 0x30
  | .describe => 0x31
  | .reset => 0x3F

/-- The body that the directory lays out for a request. A record that does not agree with its count has no body of its
own: what is written is one that reads as such (no byte, or the slot byte alone). -/
def Request.body : Request → List Byte
  | .defineFrame (some d) => definitionBytes d
  | .defineFrame none => []
  | .setLoop channel kp ki kf => [channel] ++ bytes32 kp ++ bytes32 ki ++ bytes32 kf
  | .jog speed => bytes32 speed
  | .moveTo target speed => bytes32 target ++ bytes32 speed
  | .setPosition value => bytes32 value
  | .setOverride percent => bytes16 percent
  | .setFilter n => [n]
  | .zeroExt gauge => bytes32 gauge
  | .loadProgram slot (some p) => slot :: programBytes p
  | .loadProgram slot none => [slot]
  | .addSpecimen r => specimenBytes r
  | .dropSpecimen id => idBytes id
  | .readQueue first => [first]
  | .clearHold causes => [causes]
  | .setWatch index w => index :: watchBytes w
  | .readResult none => []
  | .readResult (some id) => idBytes id
  | .deleteResult id => idBytes id
  | .setReporting kinds => bytes32 kinds
  | .setSeverity kind severity => [kind, severity]
  | .clearEvents kinds => bytes32 kinds
  | .injectEvent kind => [kind]
  | .setStream period idle => bytes16 period ++ [idle]
  | .getStatus group => [group]
  | .commitFrame | .driveOn | .driveOff | .clearFault | .stopMove | .tare | .testStart | .abortTest | .holdTest
  | .resumeTest | .readEvents | .streamOn | .streamOff | .describe | .reset => []

end Sys2Proof
end

