-- ==== Sys2Proof/Machine/State.lean ====
section
/-! DEFINITION. The state of the BX720, block by block as spec/00 lists them, and its values at power-on. Plain data. -/

namespace Sys2Proof.Machine

/-! ### Frame supervisor (spec/01) -/

/-- The nine frame states. -/
inductive FrameState where
  | undefined | driveOff | enabling | ready | moving | testing | held | returning | faulted
deriving DecidableEq, Repr

/-- The definition status (R3). -/
inductive DefinitionStatus where
  | opened | committed
deriving DecidableEq, Repr

/-- A calibration point: raw ADC count and force in mN. -/
structure CalPoint where
  raw : Int
  force : Int
deriving DecidableEq, Repr

/-- The frame definition's fields as stored (R3); the point count is the number of points held. -/
structure FrameDefinition where
  capacity : Int
  vmax : Int
  travelMin : Int
  travelMax : Int
  nmPerCount : Int
  compliance : Int
  points : List CalPoint
deriving DecidableEq, Repr

/-- The three gains of a channel, fixed point with 16 fractional bits (R8). -/
structure Gains where
  kp : Int
  ki : Int
  kf : Int
deriving DecidableEq, Repr

/-- The kinds of a move record (section 1.8). -/
inductive MoveKind where
  | jog | moveTo | returning
deriving DecidableEq, Repr

/-- The move record: kind, target, signed ramp rate, whether the setpoint has reached the target, and the settle timer
(section 1.8, R21). -/
structure Move where
  kind : MoveKind
  target : Option Int
  rate : Int
  reached : Bool
  settle : Option Nat
deriving DecidableEq, Repr

/-- The first cause of the fault-cause record (R15). -/
structure FirstCause where
  kind : EventKind
  detail : Word32
  time : Word32
deriving DecidableEq, Repr

/-- The frame supervisor's state. -/
structure Frame where
  state : FrameState
  status : DefinitionStatus
  defn : FrameDefinition
  driveTimer : Option Nat
  move : Option Move
  offset : Int
  gainsPosition : Gains
  gainsForce : Gains
  gainsStrain : Gains
  firstCause : Option FirstCause
  causeSet : List EventKind
  gateActed : Bool
  rawCount : Word32
deriving DecidableEq, Repr

/-! ### Servo loop (spec/02) -/

/-- The control channels. -/
inductive Channel where
  | position | force | strain
deriving DecidableEq, Repr

/-- The six strain-source states (spec/05). -/
inductive StrainState where
  | absent | fitted | zeroed | following | removing | derived
deriving DecidableEq, Repr

/-- A test point or an idle point (R45, R47). -/
structure Point where
  isTest : Bool
  time : Word32
  testTime : Word32
  p : Int
  d : Int
  f : Int
  eps : Int
  source : StrainState
  stage : Option Nat
  held : Bool
deriving DecidableEq, Repr

/-- The loop's state as GET_STATUS reports it: as it stood at the latest servo update (R48, log 26). -/
structure LoopReport where
  channel : Channel
  sp : Int
  q : Int
  uLast : Int
  override : Int
deriving DecidableEq, Repr

/-- The servo loop's state. -/
structure Servo where
  channel : Channel
  sp : Int
  q : Int
  iAcc : Int
  uLast : Int
  dac : Int
  override : Int
  entry : Bool
  startPos : Int
  startTime : Word32
  latest : Point
  /-- the test time of the latest test point (R148); an idle point leaves it -/
  testTime : Word32
  reported : LoopReport
deriving DecidableEq, Repr

/-! ### Force channel (spec/03) -/

/-- Which condition detected the break (R65). -/
inductive BreakCondition where
  | fraction | sudden
deriving DecidableEq, Repr

/-- The break capture (R65). -/
structure Capture where
  force : Int
  p : Int
  d : Int
  eps : Int
  condition : BreakCondition
  time : Word32
deriving DecidableEq, Repr

/-- The force channel's state. -/
structure Force where
  raw : Int
  overRange : Bool
  fLin : Int
  tare : Int
  filterLength : Nat
  window : List Int
  filtered : Int
  previous : Int
  overload : Bool
  peak : Int
  armed : Bool
  breakFlag : Bool
  capture : Option Capture
deriving DecidableEq, Repr

/-! ### Extensometer receiver (spec/04) -/

/-- The receiver states. -/
inductive ReceiverState where
  | inhibited | hunt | syncA | first | confirm | locked
deriving DecidableEq, Repr

/-- A sample record (section 4.4). -/
structure Sample where
  elongation : Int
  checkBad : Bool
  overtravel : Bool
  gap : Bool
  lost : Nat
deriving DecidableEq, Repr

/-- The receiver's state; the presence input is one of the input lines. -/
structure Receiver where
  state : ReceiverState
  place : Nat
  body : List Byte
  timer : Option Nat
  seqRef : Option (BitVec 4)
  badCount : Nat
  pendingDrop : Nat
  fifo : List Sample
  latest : Option Sample
deriving DecidableEq, Repr

/-! ### Strain source (spec/05) -/

/-- The strain source's state. -/
structure Strain where
  state : StrainState
  heldMean : Int
  starvation : Nat
  zero : Option Int
  gauge : Option Int
  parallel : Int
  k : Int
  pendingSwitch : Option Int
  timer : Option Nat
  removalTime : Nat
  removalBegan : Word32
  ofTest : Bool
  gapCount : Nat
  badCount : Nat
  switchCount : Nat
  removalStrain : Option Int
deriving DecidableEq, Repr

/-! ### Stage sequencer (spec/06) -/

/-- The end kinds of a stage. -/
inductive EndKind where
  | never | target | forceAbove | forceBelow | strainAbove | displacementAbove | stageTime | yieldFound | fmaxPassed
deriving DecidableEq, Repr

/-- An end condition: kind and value. -/
structure EndCondition where
  kind : EndKind
  value : Int
deriving DecidableEq, Repr

/-- A stage of a program. -/
structure Stage where
  channel : Channel
  rate : Int
  end1 : EndCondition
  end2 : EndCondition
deriving DecidableEq, Repr

/-- The program's choice on a loss of the extensometer (R101). -/
inductive ExtLostAction where
  | continue | hold
deriving DecidableEq, Repr

/-- The program's hold mode (R43, R44). -/
inductive HoldMode where
  | holdChannel | holdPosition
deriving DecidableEq, Repr

/-- What timers and stream do in hold (R137). -/
inductive InHold where
  | run | stop
deriving DecidableEq, Repr

/-- The marker modes (R123). -/
inductive MarkerMode where
  | off | testLevel | recordToggle
deriving DecidableEq, Repr

/-- A program record (R108, R109), with defaults put in. -/
structure Program where
  extRequired : Bool
  extLostAction : ExtLostAction
  removalStrain : Option Int
  removeAtNecking : Bool
  removeBefore : Option Nat
  removalTime : Nat
  fitLower : Int
  fitUpper : Int
  rpOffset : Int
  yieldDrop : Int
  guardStrain : Int
  margin : Int
  neckingThreshold : Int
  breakPct : Int
  suddenPct : Int
  breakMin : Int
  forceLimit : Int
  autoTare : Bool
  returnEnabled : Bool
  returnSpeed : Int
  holdMode : HoldMode
  timersInHold : InHold
  streamInHold : InHold
  markerMode : MarkerMode
  stages : List Stage
deriving DecidableEq, Repr

/-- The running program copy: the slot it came from and the converted record (R111). -/
structure Running where
  slot : Nat
  program : Program
deriving DecidableEq, Repr

/-- The stage timer with its remaining milliseconds (R114). -/
inductive StageTimer where
  | stopped
  | running (remaining : Nat)
  | paused (remaining : Nat)
deriving DecidableEq, Repr

/-- The stage sequencer's state. -/
structure Sequencer where
  slots : Vector (Option Program) 4
  running : Option Running
  stage : Option Nat
  timer : StageTimer
  timeMark : Bool
  yieldMark : Bool
  fmaxMark : Bool
  lastEnd : Option Word32
  markerMode : MarkerMode
  marker : Bool
deriving DecidableEq, Repr

/-! ### Watch unit and hold control (spec/07) -/

/-- The quantity a watch compares. -/
inductive WatchQuantity where
  | force | strain | displacement | position | testTime
deriving DecidableEq, Repr

/-- The direction of crossing that fires. -/
inductive WatchDirection where
  | rising | falling
deriving DecidableEq, Repr

/-- What a firing does. -/
inductive WatchAction where
  | notify | hold | nextStage | endTest | removeExt
deriving DecidableEq, Repr

/-- Whether an entry may fire again in the same test. -/
inductive WatchRearm where
  | once | rearm
deriving DecidableEq, Repr

/-- Whether the entry can fire at the next crossing. -/
inductive WatchState where
  | armed | fired
deriving DecidableEq, Repr

/-- An entry of the watch table (section 7.1). -/
structure Watch where
  enabled : Bool
  quantity : WatchQuantity
  level : Int
  direction : WatchDirection
  action : WatchAction
  rearm : WatchRearm
  hysteresis : Int
  state : WatchState
  previous : Option Int
deriving DecidableEq, Repr

/-- The causes that can hold a test (section 7.4). -/
inductive HoldCause where
  | operator | watch | removal | extLost
deriving DecidableEq, Repr

/-- The hold-cause set: each cause at most once (R133). -/
structure HoldCauses where
  operator : Bool
  watch : Bool
  removal : Bool
  extLost : Bool
deriving DecidableEq, Repr

/-- Hold control's state. -/
structure Hold where
  causes : HoldCauses
  count : Nat
deriving DecidableEq, Repr

/-! ### Test records (spec/08) -/

/-- The shapes of a specimen (R140). -/
inductive Shape where
  | round | rect | given
deriving DecidableEq, Repr

/-- A specimen record (R140), with the computed cross-section. -/
structure Specimen where
  id : List Byte
  slot : Nat
  shape : Shape
  dim1 : Nat
  dim2 : Nat
  parallel : Nat
  s0 : Nat
deriving DecidableEq, Repr

/-- The test in progress (R148); `pointMade` says that a test point of it has been made (R65, log 30). -/
structure TestInProgress where
  specimen : Specimen
  startTime : Word32
  pointMade : Bool
deriving DecidableEq, Repr

/-- The outcomes of a test (section 6.4). -/
inductive TestOutcome where
  | completedBreak | completedNoBreak | endedByWatch | aborted | testFault | frameFault | reset
deriving DecidableEq, Repr

/-- Why an optional part of a result is absent (R154). -/
inductive Reason where
  | notDiscontinuous | notReached | fitInvalid | fitOpen | endedEarly | noBreak
deriving DecidableEq, Repr

/-- An optional part of a result: present with its fields, or absent with a reason (R154). -/
inductive Part (α : Type) where
  | present (fields : α)
  | absent (reason : Reason)
deriving DecidableEq, Repr

/-- Maximum force part: Fmax (mN), Rm (kPa), Agt (counts). -/
structure MaxForce where
  fmax : Int
  rm : Int
  agt : Int
deriving DecidableEq, Repr

/-- A yield force with its stress: mN and kPa. -/
structure ForceStress where
  force : Int
  stress : Int
deriving DecidableEq, Repr

/-- Break part: F_break (mN), d_break (µm), At (counts). -/
structure BreakPart where
  force : Int
  d : Int
  strain : Int
deriving DecidableEq, Repr

/-- A result record (R153, R154). -/
structure Result where
  id : List Byte
  slot : Nat
  s0 : Nat
  outcome : TestOutcome
  detail : Nat
  startTime : Word32
  duration : Word32
  energy : Int
  gapCount : Nat
  badCount : Nat
  holdCount : Nat
  switchCount : Nat
  maxForce : Part MaxForce
  upperYield : Part ForceStress
  lowerYield : Part ForceStress
  plateau : Part Int
  offsetYield : Part ForceStress
  modulus : Part Int
  breakPart : Part BreakPart
  removalStrain : Option Int
deriving DecidableEq, Repr

/-- The test records block's state. -/
structure Records where
  queue : List Specimen
  test : Option TestInProgress
  results : List Result
deriving DecidableEq, Repr

/-! ### Evaluation unit (spec/09) -/

/-- The phases of a test (R157). -/
inductive Phase where
  | elastic | discontinuous | hardening | necking | ended
deriving DecidableEq, Repr

/-- The fit states (R164). -/
inductive FitState where
  | opened | valid | invalid
deriving DecidableEq, Repr

/-- The states of the yield plateau (R168, R169). -/
inductive Plateau where
  | notStarted | running | ended | cutShort
deriving DecidableEq, Repr

/-- Which of the two yield findings came first (R171). -/
inductive YieldPath where
  | none | discontinuous | continuous
deriving DecidableEq, Repr

/-- The candidate peak of upper-yield tracking and its strain (R166). -/
structure Candidate where
  peak : Int
  eps : Int
deriving DecidableEq, Repr

/-- The evaluation unit's state: the state table of spec/09. -/
structure Evaluation where
  phase : Phase
  fLo : Int
  fHi : Int
  n : Int
  sumE : Int
  sumF : Int
  sumEE : Int
  sumEF : Int
  overflow : Bool
  fit : FitState
  slope : Option Int
  intercept : Option Int
  modulus : Option Int
  energy : Int
  prevD : Int
  fmax : Option Int
  agt : Option Int
  tracking : Option Candidate
  reH : Option Int
  epsReH : Option Int
  guardEnd : Option Int
  reL : Option Int
  plateau : Plateau
  ae : Option Int
  rp : Option Int
  path : YieldPath
deriving DecidableEq, Repr

/-! ### Event table (spec/10) -/

/-- The classes of an occurrence. -/
inductive EventClass where
  | info | warning | testFault | frameFault
deriving DecidableEq, Repr

/-- The record of a pending kind (R178); a kind that is not pending has none. -/
structure Occurred where
  count : Nat
  time : Word32
  detail : Word32
  cls : EventClass
deriving DecidableEq, Repr

/-- A settable severity (R177). -/
inductive Severity where
  | warning | testFault
deriving DecidableEq, Repr

/-- The severities of the four settable kinds. -/
structure Severities where
  extGap : Severity
  extLost : Severity
  extRemovalTimeout : Severity
  travelLimit : Severity
deriving DecidableEq, Repr

/-- The event table's state; the report enables are the set of kinds as it is sent, bit n for code n. -/
structure Events where
  records : Vector (Option Occurred) 31
  enabled : Word32
  severities : Severities
deriving DecidableEq, Repr

/-! ### Host link and stream unit (spec/11) -/

/-- A good request frame in a receive slot: KIND, TAG and body (R193). -/
structure RequestFrame where
  kind : Byte
  tag : Byte
  body : List Byte
deriving DecidableEq, Repr

/-- A frame the module sends: KIND, TAG and body (section 11.1). -/
structure LinkFrame where
  kind : Byte
  tag : Byte
  body : List Byte
deriving DecidableEq, Repr

/-- A stream record (R198, R199). -/
structure StreamRecord where
  time : Word32
  p : Int
  f : Int
  eps : Int
  stage : Option Nat
  source : StrainState
  held : Bool
  fitClosed : Bool
  broken : Bool
  overRange : Bool
  frameState : FrameState
  lostBefore : Nat
deriving DecidableEq, Repr

/-- The link's state: receive side, queues and transmitter. -/
structure Link where
  rx : Option (List Byte)
  rxTimer : Option Nat
  slots : List RequestFrame
  replies : List LinkFrame
  eventQueue : List EventKind
  streamQueue : List StreamRecord
  tx : Option LinkFrame
deriving DecidableEq, Repr

/-- The stream unit's state (R196 to R199). -/
structure Stream where
  on : Bool
  period : Nat
  pendingPeriod : Option Nat
  idle : Bool
  timer : Option Nat
  pendingLoss : Nat
  made : Nat
  dropped : Nat
deriving DecidableEq, Repr

/-! ### The paths between blocks -/

/-- The test points each consumer has been sent and has not yet taken, oldest first (R46, log 7). -/
structure Deliveries where
  sequencer : List Point
  watch : List Point
  evaluation : List Point
  removal : List Point
deriving DecidableEq, Repr

/-- A notice or test-end arrival sent from one block to another and not yet taken (log 6). -/
inductive Notice where
  /-- the yield notice to the sequencer (R117) -/
  | yieldFound
  /-- the Fmax-passed notice to the sequencer (R117) -/
  | fmaxPassed
  /-- the necking notice to the strain source (R93) -/
  | necking
  /-- the named-stage notice to the strain source (R93) -/
  | namedStage
  /-- a watch's removal trigger to the strain source (R130) -/
  | watchRemoval
  /-- a watch's NEXT_STAGE action to the sequencer, with the time of its test point (R131) -/
  | nextStage (time : Word32)
  /-- the test end to the force channel (R66) -/
  | breakDetectionTestEnd
  /-- the test end to the strain source (R102) -/
  | strainSourceTestEnd
  /-- the receiver's entry to LOCKED, to the strain source (R88) -/
  | receiverEntersLocked
  /-- the receiver leaving LOCKED, to the strain source (R88) -/
  | receiverLeavesLocked
deriving DecidableEq, Repr

/-! ### The whole module -/

/-- The state of the module, and the queue of commands that wait. -/
structure State where
  inputs : Inputs
  clock : Word32
  frame : Frame
  servo : Servo
  force : Force
  ext : Receiver
  strain : Strain
  seq : Sequencer
  watches : Vector Watch 5
  hold : Hold
  recs : Records
  eval : Evaluation
  events : Events
  link : Link
  stream : Stream
  points : Deliveries
  mail : List Notice
  pending : List Instr
deriving DecidableEq, Repr

/-- The faults of the machine: there are none. The spec stops the module nowhere (INVENTORY.md, Faults). -/
inductive Fault where
deriving DecidableEq, Repr

/-- The refusals of the machine. -/
inductive Refusal where
  /-- raised by an arm of `exec` whose command has no meaning yet; safe, since nothing is claimed of it. No arm raises it. -/
  | notModelled (mnemonic : String)
deriving DecidableEq, Repr

/-! ### Power-on values -/

/-- Every input line at rest (DESIGN CHOICE, unsafe, log 2). -/
def Inputs.rest : Inputs :=
  { estop := false, upper := false, lower := false, driveReady := false, driveFault := false, presence := false,
    retracted := false, hostReady := false }

/-- The frame supervisor at power-on (R24, R8). -/
def Frame.initial : Frame :=
  { state := .undefined, status := .opened,
    defn := { capacity := 0, vmax := 0, travelMin := 0, travelMax := 0, nmPerCount := 0, compliance := 0, points := [] },
    driveTimer := none, move := none, offset := 0,
    gainsPosition := { kp := 131072, ki := 0, kf := 65536 }, gainsForce := { kp := 0, ki := 0, kf := 0 },
    gainsStrain := { kp := 0, ki := 0, kf := 0 },
    firstCause := none, causeSet := [], gateActed := false, rawCount := 0 }

/-- The latest point at power-on: an idle point of time 0 (R49). -/
def Point.initial : Point :=
  { isTest := false, time := 0, testTime := 0, p := 0, d := 0, f := 0, eps := 0, source := .absent, stage := none,
    held := false }

/-- The servo loop at power-on (R49). -/
def Servo.initial : Servo :=
  { channel := .position, sp := 0, q := 0, iAcc := 0, uLast := 0, dac := 0, override := 100, entry := false,
    startPos := 0, startTime := 0, latest := Point.initial, testTime := 0,
    reported := { channel := .position, sp := 0, q := 0, uLast := 0, override := 100 } }

/-- The force channel at power-on (R68). -/
def Force.initial : Force :=
  { raw := 0, overRange := false, fLin := 0, tare := 0, filterLength := 4, window := [], filtered := 0, previous := 0,
    overload := false, peak := 0, armed := false, breakFlag := false, capture := none }

/-- The receiver at power-on, for the level of the presence input (R84). -/
def Receiver.initial (presence : Bool) : Receiver :=
  { state := if presence then .hunt else .inhibited, place := 0, body := [], timer := none, seqRef := none, badCount := 0,
    pendingDrop := 0, fifo := [], latest := none }

/-- The strain source at power-on (R105). -/
def Strain.initial : Strain :=
  { state := .absent, heldMean := 0, starvation := 65535, zero := none, gauge := none, parallel := 10000, k := 0,
    pendingSwitch := none, timer := none, removalTime := 0, removalBegan := 0, ofTest := false, gapCount := 0,
    badCount := 0, switchCount := 0, removalStrain := none }

/-- The stage sequencer at power-on (R107, R122, R124). -/
def Sequencer.initial : Sequencer :=
  { slots := Vector.replicate 4 none, running := none, stage := none, timer := .stopped, timeMark := false,
    yieldMark := false, fmaxMark := false, lastEnd := none, markerMode := .off, marker := false }

/-- A watch entry at power-on (R125). -/
def Watch.initial : Watch :=
  { enabled := false, quantity := .force, level := 0, direction := .rising, action := .notify, rearm := .once,
    hysteresis := 0, state := .armed, previous := none }

/-- The empty hold-cause set. -/
def HoldCauses.empty : HoldCauses := { operator := false, watch := false, removal := false, extLost := false }

/-- The evaluation unit at power-on (R176). -/
def Evaluation.initial : Evaluation :=
  { phase := .ended, fLo := 0, fHi := 0, n := 0, sumE := 0, sumF := 0, sumEE := 0, sumEF := 0, overflow := false,
    fit := .opened, slope := none, intercept := none, modulus := none, energy := 0, prevD := 0, fmax := none, agt := none,
    tracking := none, reH := none, epsReH := none, guardEnd := none, reL := none, plateau := .notStarted, ae := none,
    rp := none, path := .none }

/-- The event table at power-on (R177, R178, R185): codes 13 to 30 enabled. -/
def Events.initial : Events :=
  { records := Vector.replicate 31 none, enabled := 0x7FFFE000,
    severities := { extGap := .warning, extLost := .warning, extRemovalTimeout := .warning, travelLimit := .testFault } }

/-- The link at power-on (R203). -/
def Link.initial : Link :=
  { rx := none, rxTimer := none, slots := [], replies := [], eventQueue := [], streamQueue := [], tx := none }

/-- The stream unit at power-on (R196, R203). -/
def Stream.initial : Stream :=
  { on := false, period := 10, pendingPeriod := none, idle := false, timer := none, pendingLoss := 0, made := 0,
    dropped := 0 }

/-- No test point is on its way. -/
def Deliveries.none : Deliveries := { sequencer := [], watch := [], evaluation := [], removal := [] }

/-- The module as power-on leaves it with these input levels, before the events of R16 are raised, and with these commands
waiting. -/
def State.atPowerOn (levels : Inputs) (pending : List Instr) : State :=
  { inputs := levels, clock := 0, frame := Frame.initial, servo := Servo.initial, force := Force.initial,
    ext := Receiver.initial levels.presence, strain := Strain.initial, seq := Sequencer.initial,
    watches := Vector.replicate 5 Watch.initial, hold := { causes := HoldCauses.empty, count := 0 },
    recs := { queue := [], test := none, results := [] }, eval := Evaluation.initial, events := Events.initial,
    link := Link.initial, stream := Stream.initial, points := Deliveries.none, mail := [], pending := pending }

/-- The machine right after power-on with every input line at rest. -/
def State.reset : State := State.atPowerOn Inputs.rest []

/-! ### Updates of one block -/

/-- Changes the frame supervisor alone. -/
def State.onFrame (s : State) (g : Frame → Frame) : State := { s with frame := g s.frame }
/-- Changes the servo loop alone. -/
def State.onServo (s : State) (g : Servo → Servo) : State := { s with servo := g s.servo }
/-- Changes the force channel alone. -/
def State.onForce (s : State) (g : Force → Force) : State := { s with force := g s.force }
/-- Changes the receiver alone. -/
def State.onExt (s : State) (g : Receiver → Receiver) : State := { s with ext := g s.ext }
/-- Changes the strain source alone. -/
def State.onStrain (s : State) (g : Strain → Strain) : State := { s with strain := g s.strain }
/-- Changes the sequencer alone. -/
def State.onSeq (s : State) (g : Sequencer → Sequencer) : State := { s with seq := g s.seq }
/-- Changes the watch table alone. -/
def State.onWatches (s : State) (g : Vector Watch 5 → Vector Watch 5) : State := { s with watches := g s.watches }
/-- Changes hold control alone. -/
def State.onHold (s : State) (g : Hold → Hold) : State := { s with hold := g s.hold }
/-- Changes the test records alone. -/
def State.onRecs (s : State) (g : Records → Records) : State := { s with recs := g s.recs }
/-- Changes the evaluation unit alone. -/
def State.onEval (s : State) (g : Evaluation → Evaluation) : State := { s with eval := g s.eval }
/-- Changes the event table alone. -/
def State.onEvents (s : State) (g : Events → Events) : State := { s with events := g s.events }
/-- Changes the link alone. -/
def State.onLink (s : State) (g : Link → Link) : State := { s with link := g s.link }
/-- Changes the stream unit alone. -/
def State.onStream (s : State) (g : Stream → Stream) : State := { s with stream := g s.stream }
/-- Changes the input levels alone. -/
def State.onInputs (s : State) (g : Inputs → Inputs) : State := { s with inputs := g s.inputs }
/-- Changes the test points on their way alone. -/
def State.onPoints (s : State) (g : Deliveries → Deliveries) : State := { s with points := g s.points }
/-- Changes the notices on their way alone. -/
def State.onMail (s : State) (g : List Notice → List Notice) : State := { s with mail := g s.mail }

end Sys2Proof.Machine
end

