-- ==== Sys2Proof/Machine/Operands.lean ====
section
/-! DEFINITION. The codes of spec/11, section 11.6 and spec/10, section 10.1: what a code in a request names, and the code
of a state, status or kind where it is sent. -/

namespace Sys2Proof

/-- Every event kind, in the order of the codes of section 10.1. -/
def EventKind.all : List EventKind :=
  [.driveReady, .testStarted, .stageEntered, .fitClosed, .yieldFound, .fmaxPassed, .extRemoved, .breakDetected,
   .testEnded, .resultReady, .returnDone, .watchFired, .heldEntered, .moveIncomplete, .rateClamped, .extCheck,
   .extSlip, .linkRxError, .streamLoss, .fitInvalid, .extGap, .extLost, .extRemovalTimeout, .travelLimit,
   .forceOverrange, .forceLimit, .estop, .limitSwitch, .driveTimeout, .driveLost, .overload]

/-- The code of a kind, 0..30 (section 10.1). -/
def EventKind.code : EventKind → Fin 31
  | .driveReady => 0 | .testStarted => 1 | .stageEntered => 2 | .fitClosed => 3 | .yieldFound => 4 | .fmaxPassed => 5
  | .extRemoved => 6 | .breakDetected => 7 | .testEnded => 8 | .resultReady => 9 | .returnDone => 10 | .watchFired => 11
  | .heldEntered => 12 | .moveIncomplete => 13 | .rateClamped => 14 | .extCheck => 15 | .extSlip => 16
  | .linkRxError => 17 | .streamLoss => 18 | .fitInvalid => 19 | .extGap => 20 | .extLost => 21
  | .extRemovalTimeout => 22 | .travelLimit => 23 | .forceOverrange => 24 | .forceLimit => 25 | .estop => 26
  | .limitSwitch => 27 | .driveTimeout => 28 | .driveLost => 29 | .overload => 30

/-- The kind a code names, if any (R189). -/
def EventKind.ofCode (code : Nat) : Option EventKind := EventKind.all[code]?

/-- A set of kinds as it is sent: the sum of 2 raised to the code of each member (section 10.1). -/
def kindSet (kinds : List EventKind) : Word32 :=
  kinds.foldl (fun acc k => acc ||| BitVec.ofNat 32 (2 ^ k.code.val)) 0

/-- The kind is in a set of kinds as it is sent. -/
def EventKind.inSet (k : EventKind) (kinds : Word32) : Bool := kinds.getLsbD k.code.val

end Sys2Proof

namespace Sys2Proof.Machine

/-- The status values of a reply (section 11.2). -/
inductive Status where
  | ok | clamped | unknownKind | badLength | badValue | wrongState | busy | full | empty | notFound | duplicate | locked
  | causePending
deriving DecidableEq, Repr

/-- Status codes. -/
def Status.code : Status → Byte
  | .ok => 0 | .clamped => 1 | .unknownKind => 2 | .badLength => 3 | .badValue => 4 | .wrongState => 5 | .busy => 6
  | .full => 7 | .empty => 8 | .notFound => 9 | .duplicate => 10 | .locked => 11 | .causePending => 12

/-- Frame state codes. -/
def FrameState.code : FrameState → Byte
  | .undefined => 0 | .driveOff => 1 | .enabling => 2 | .ready => 3 | .moving => 4 | .testing => 5 | .held => 6
  | .returning => 7 | .faulted => 8

/-- Definition status codes. -/
def DefinitionStatus.code : DefinitionStatus → Byte
  | .opened => 0 | .committed => 1

/-- Strain-source state codes. -/
def StrainState.code : StrainState → Byte
  | .absent => 0 | .fitted => 1 | .zeroed => 2 | .following => 3 | .removing => 4 | .derived => 5

/-- Receiver state codes. -/
def ReceiverState.code : ReceiverState → Byte
  | .inhibited => 0 | .hunt => 1 | .syncA => 2 | .first => 3 | .confirm => 4 | .locked => 5

/-- Channel codes. -/
def Channel.code : Channel → Byte
  | .position => 0 | .force => 1 | .strain => 2

/-- The channel a code names. -/
def Channel.ofCode : Nat → Option Channel
  | 0 => some .position | 1 => some .force | 2 => some .strain | _ => none

/-- The yes/no value a code names (R108). -/
def yesNoOfCode : Nat → Option Bool
  | 0 => some false | 1 => some true | _ => none

/-- A yes/no value or a mark as a byte. -/
def flagByte (b : Bool) : Byte := if b then 1 else 0

/-- The end kind a code names. -/
def EndKind.ofCode : Nat → Option EndKind
  | 0 => some .never | 1 => some .target | 2 => some .forceAbove | 3 => some .forceBelow | 4 => some .strainAbove
  | 5 => some .displacementAbove | 6 => some .stageTime | 7 => some .yieldFound | 8 => some .fmaxPassed | _ => none

/-- The ext_lost_action a code names. -/
def ExtLostAction.ofCode : Nat → Option ExtLostAction
  | 0 => some .continue | 1 => some .hold | _ => none

/-- The hold mode a code names. -/
def HoldMode.ofCode : Nat → Option HoldMode
  | 0 => some .holdChannel | 1 => some .holdPosition | _ => none

/-- Hold mode codes. -/
def HoldMode.code : HoldMode → Byte
  | .holdChannel => 0 | .holdPosition => 1

/-- RUN or STOP in hold. -/
def InHold.ofCode : Nat → Option InHold
  | 0 => some .run | 1 => some .stop | _ => none

/-- RUN and STOP codes. -/
def InHold.code : InHold → Byte
  | .run => 0 | .stop => 1

/-- The marker mode a code names. -/
def MarkerMode.ofCode : Nat → Option MarkerMode
  | 0 => some .off | 1 => some .testLevel | 2 => some .recordToggle | _ => none

/-- Marker mode codes. -/
def MarkerMode.code : MarkerMode → Byte
  | .off => 0 | .testLevel => 1 | .recordToggle => 2

/-- The shape a code names. -/
def Shape.ofCode : Nat → Option Shape
  | 0 => some .round | 1 => some .rect | 2 => some .given | _ => none

/-- Shape codes. -/
def Shape.code : Shape → Byte
  | .round => 0 | .rect => 1 | .given => 2

/-- The watch quantity a code names. -/
def WatchQuantity.ofCode : Nat → Option WatchQuantity
  | 0 => some .force | 1 => some .strain | 2 => some .displacement | 3 => some .position | 4 => some .testTime | _ => none

/-- The watch direction a code names. -/
def WatchDirection.ofCode : Nat → Option WatchDirection
  | 0 => some .rising | 1 => some .falling | _ => none

/-- The watch action a code names. -/
def WatchAction.ofCode : Nat → Option WatchAction
  | 0 => some .notify | 1 => some .hold | 2 => some .nextStage | 3 => some .endTest | 4 => some .removeExt | _ => none

/-- Watch action codes. -/
def WatchAction.code : WatchAction → Byte
  | .notify => 0 | .hold => 1 | .nextStage => 2 | .endTest => 3 | .removeExt => 4

/-- The watch rearm a code names. -/
def WatchRearm.ofCode : Nat → Option WatchRearm
  | 0 => some .once | 1 => some .rearm | _ => none

/-- Watch state codes. -/
def WatchState.code : WatchState → Byte
  | .armed => 0 | .fired => 1

/-- Outcome codes. -/
def TestOutcome.code : TestOutcome → Nat
  | .completedBreak => 0 | .completedNoBreak => 1 | .endedByWatch => 2 | .aborted => 3 | .testFault => 4
  | .frameFault => 5 | .reset => 6

/-- Absence reason codes (0 stands for a present part). -/
def Reason.code : Reason → Byte
  | .notDiscontinuous => 1 | .notReached => 2 | .fitInvalid => 3 | .fitOpen => 4 | .endedEarly => 5 | .noBreak => 6

/-- Break condition codes. -/
def BreakCondition.code : BreakCondition → Byte
  | .fraction => 0 | .sudden => 1

/-- Evaluation phase codes. -/
def Phase.code : Phase → Byte
  | .elastic => 0 | .discontinuous => 1 | .hardening => 2 | .necking => 3 | .ended => 4

/-- Fit state codes. -/
def FitState.code : FitState → Byte
  | .opened => 0 | .valid => 1 | .invalid => 2

/-- Yield path codes. -/
def YieldPath.code : YieldPath → Byte
  | .none => 0 | .discontinuous => 1 | .continuous => 2

/-- Plateau codes. -/
def Plateau.code : Plateau → Byte
  | .notStarted => 0 | .running => 1 | .ended => 2 | .cutShort => 3

/-- Class codes (section 10.1). -/
def EventClass.code : EventClass → Byte
  | .info => 0 | .warning => 1 | .testFault => 2 | .frameFault => 3

/-- The severity a class code names (R186). -/
def Severity.ofCode : Nat → Option Severity
  | 1 => some .warning | 2 => some .testFault | _ => none

/-- The class a severity stands for. -/
def Severity.toClass : Severity → EventClass
  | .warning => .warning | .testFault => .testFault

/-- A hold cause's code: 1, 2, 4 or 8 (section 7.4). -/
def HoldCause.code : HoldCause → Nat
  | .operator => 1 | .watch => 2 | .removal => 4 | .extLost => 8

/-- The hold-cause set as it is sent: the sum of the codes of its members (section 7.4). -/
def HoldCauses.code (c : HoldCauses) : Nat :=
  c.operator.toNat + 2 * c.watch.toNat + 4 * c.removal.toNat + 8 * c.extLost.toNat

/-- The set with a cause in it; a cause already there leaves it as it is (R133). -/
def HoldCauses.add (c : HoldCauses) : HoldCause → HoldCauses
  | .operator => { c with operator := true }
  | .watch => { c with watch := true }
  | .removal => { c with removal := true }
  | .extLost => { c with extLost := true }

/-- The set without the causes a sum of codes names (R135). -/
def HoldCauses.remove (c : HoldCauses) (causes : Byte) : HoldCauses :=
  { operator := c.operator && !causes.getLsbD 0, watch := c.watch && !causes.getLsbD 1,
    removal := c.removal && !causes.getLsbD 2, extLost := c.extLost && !causes.getLsbD 3 }

end Sys2Proof.Machine
end

