-- ==== Sys2Proof/Machine/Flags.lean ====
section
/-! DEFINITION. The flag bytes of the layouts of spec/11, section 11.6, and the outputs that follow from a state. -/

namespace Sys2Proof.Machine

/-- A byte from eight bits, bit 0 first. -/
def packBits (b0 b1 b2 b3 b4 b5 b6 b7 : Bool) : Byte :=
  BitVec.ofNat 8 (b0.toNat + 2 * b1.toNat + 4 * b2.toNat + 8 * b3.toNat + 16 * b4.toNat + 32 * b5.toNat + 64 * b6.toNat +
    128 * b7.toNat)

/-- Sample flags: bit 0 CHECK_BAD, bit 1 OVERTRAVEL, bit 2 GAP. -/
def Sample.flags (x : Sample) : Byte := packBits x.checkBad x.overtravel x.gap false false false false false

/-- Stream record flags: bit 0 held, bit 1 fit closed, bit 2 break, bit 3 over-range. -/
def StreamRecord.flags (r : StreamRecord) : Byte :=
  packBits r.held r.fitClosed r.broken r.overRange false false false false

/-- Input levels of GET_STATUS group 0: E-stop, upper limit, lower limit, drive ready, drive fault. -/
def inputFlags (i : Inputs) : Byte := packBits i.estop i.upper i.lower i.driveReady i.driveFault false false false

/-- The marks of GET_STATUS group 3: time-reached, yield, Fmax-passed. -/
def Sequencer.markFlags (q : Sequencer) : Byte := packBits q.timeMark q.yieldMark q.fmaxMark false false false false false

/-- The drive enable output, from the frame state (R1). -/
def FrameState.driveEnable : FrameState → Bool
  | .enabling | .ready | .moving | .testing | .held | .returning => true
  | .undefined | .driveOff | .faulted => false

/-- A test is in progress while the frame state is TESTING or HELD (spec/01, chapter head). -/
def FrameState.inTest : FrameState → Bool
  | .testing | .held => true
  | _ => false

/-- The loop tracks with demand 0 in these states (R29). -/
def FrameState.tracks : FrameState → Bool
  | .undefined | .driveOff | .enabling | .faulted => true
  | _ => false

/-- The remove output, from the strain-source state (R95). -/
def StrainState.removeOutput (x : StrainState) : Bool := x = .removing

end Sys2Proof.Machine

namespace Sys2Proof

/-- Drive ready is seen when the ready input is asserted and the fault input is not (spec/01, section 1.5). -/
def Inputs.driveSeen (i : Inputs) : Bool := i.driveReady && !i.driveFault

/-- A cabinet input is asserted (R16). -/
def Inputs.cabinet (i : Inputs) : CabinetInput → Bool
  | .estop => i.estop
  | .upperLimit => i.upper
  | .lowerLimit => i.lower

/-- The levels with a cabinet input at a level. -/
def Inputs.withCabinet (i : Inputs) (level : Bool) : CabinetInput → Inputs
  | .estop => { i with estop := level }
  | .upperLimit => { i with upper := level }
  | .lowerLimit => { i with lower := level }

end Sys2Proof
end

