-- ==== Sys2Proof/Machine/Ops.lean ====
section
/-! DEFINITION. The operations the blocks share: raising an event with the effect of its class (R179 to R183, R14), the test
end sequence (R120, R121), the hold causes (R133), the entry and end of a stage (R113, R114, R118), the notices between
blocks, and the transmit arbiter (R195). -/

namespace Sys2Proof.Machine

/-! ### Reading the state -/

/-- A test is in progress (spec/01, chapter head). -/
def State.inTest (s : State) : Bool := s.frame.state.inTest

/-- The frame definition is committed (R5). -/
def State.committed (s : State) : Bool := s.frame.status = .committed

/-- The running program copy, if any. -/
def State.program (s : State) : Option Program := s.seq.running.map (·.program)

/-- The running program holds the crosshead's position in HELD (R44). -/
def State.holdsPosition (s : State) : Bool := s.program.any fun p => p.holdMode = .holdPosition

/-- The running program pauses the stage timer in HELD (R114). -/
def State.pausesTimers (s : State) : Bool := s.program.any fun p => p.timersInHold = .stop

/-- The cross-section of the specimen under test, in 0.001 mm². -/
def State.s0 (s : State) : Int := (s.recs.test.map fun t => (t.specimen.s0 : Int)).getD 0

/-! ### Notices between blocks (log 6) -/

/-- Sends a notice. -/
def State.send (s : State) (n : Notice) : State := s.onMail (· ++ [n])

/-- Takes the oldest notice like this one off the way, if one is on its way. -/
def State.taken (s : State) (n : Notice) : State := s.onMail (·.erase n)

/-! ### Events -/

/-- The class with which an occurrence of the kind is detected: its fixed class, or its severity (R177). -/
def State.classOf (s : State) : EventKind → EventClass
  | .driveReady | .testStarted | .stageEntered | .fitClosed | .yieldFound | .fmaxPassed | .extRemoved | .breakDetected
  | .testEnded | .resultReady | .returnDone | .watchFired | .heldEntered => .info
  | .moveIncomplete | .rateClamped | .extCheck | .extSlip | .linkRxError | .streamLoss | .fitInvalid => .warning
  | .extGap => s.events.severities.extGap.toClass
  | .extLost => s.events.severities.extLost.toClass
  | .extRemovalTimeout => s.events.severities.extRemovalTimeout.toClass
  | .travelLimit => s.events.severities.travelLimit.toClass
  | .forceOverrange | .forceLimit => .testFault
  | .estop | .limitSwitch | .driveTimeout | .driveLost | .overload => .frameFault

/-- The record of a kind, none when it is not pending (R178). -/
def Events.record (e : Events) (k : EventKind) : Option Occurred := e.records.get k.code

/-- The table with a kind's record replaced. -/
def Events.put (e : Events) (k : EventKind) (r : Option Occurred) : Events :=
  { e with records := e.records.set k.code.val r k.code.isLt }

/-- Records an occurrence: a kind not pending becomes pending and is queued for report when enabled or a FRAME_FAULT; a
pending kind's count rises (R179, R180). -/
def State.record (s : State) (k : EventKind) (detail : Word32) (cls : EventClass) : State :=
  match s.events.record k with
  | some r => s.onEvents (·.put k (some { r with count := saturate 255 r.count 1 }))
  | none =>
    let s1 := s.onEvents (·.put k (some { count := 1, time := s.clock, detail := detail, cls := cls }))
    if k.inSet s.events.enabled || cls = .frameFault then
      s1.onLink fun l => { l with eventQueue := l.eventQueue ++ [k] }
    else s1

/-! ### The result of a test -/

/-- A yield part: present with its stress, or absent with a reason (R154, R174). -/
def yieldPart (force : Option Int) (s0 : Int) (why : Reason) : Part ForceStress :=
  match force with
  | some f => .present { force := f, stress := stressOf f s0 }
  | none => .absent why

/-- Why the lower yield or the plateau is absent (R174). -/
def YieldPath.lowerReason : YieldPath → Reason
  | .continuous => .notDiscontinuous
  | .none => .notReached
  | .discontinuous => .endedEarly

/-- Why the upper yield is absent (R174). -/
def YieldPath.upperReason : YieldPath → Reason
  | .continuous => .notDiscontinuous
  | .none | .discontinuous => .notReached

/-- Why the modulus is absent, and the offset yield when the fit is not valid (R174). -/
def FitState.reason : FitState → Reason
  | .invalid => .fitInvalid
  | .opened => .fitOpen
  | .valid => .notReached

/-- The maximum-force part (R173, R154). -/
def Evaluation.maxForcePart (e : Evaluation) (s0 : Int) : Part MaxForce :=
  match e.fmax, e.agt with
  | some f, some a => .present { fmax := f, rm := stressOf f s0, agt := a }
  | _, _ => .absent .notReached

/-- The modulus part (R174). -/
def Evaluation.modulusPart (e : Evaluation) : Part Int :=
  match e.fit, e.modulus with
  | .valid, some m => .present m
  | f, _ => .absent f.reason

/-- The plateau part (R174). -/
def Evaluation.plateauPart (e : Evaluation) : Part Int :=
  match e.plateau, e.ae with
  | .ended, some a => .present a
  | _, _ => .absent e.path.lowerReason

/-- The break part, from the force channel's capture (R173). -/
def breakPartOf : Option Capture → Part BreakPart
  | some c => .present { force := c.force, d := c.d, strain := c.eps }
  | none => .absent .noBreak

/-- The result record the completion of a test makes (R148, R153, R154, R173, R174). -/
def State.resultOf (s : State) (t : TestInProgress) (outcome : TestOutcome) (detail : Nat) : Result :=
  let s0 : Int := t.specimen.s0
  { id := t.specimen.id, slot := t.specimen.slot, s0 := t.specimen.s0, outcome := outcome, detail := detail,
    startTime := t.startTime, duration := s.clock - t.startTime, energy := roundDiv s.eval.energy 1000000,
    gapCount := s.strain.gapCount, badCount := s.strain.badCount, holdCount := s.hold.count,
    switchCount := s.strain.switchCount, maxForce := s.eval.maxForcePart s0,
    upperYield := yieldPart s.eval.reH s0 s.eval.path.upperReason,
    lowerYield := yieldPart s.eval.reL s0 s.eval.path.lowerReason,
    plateau := s.eval.plateauPart, offsetYield := yieldPart s.eval.rp s0 s.eval.fit.reason,
    modulus := s.eval.modulusPart, breakPart := breakPartOf s.force.capture, removalStrain := s.strain.removalStrain }

/-! ### The test end sequence -/

/-- The frame after a test of this outcome: RETURNING with its move record, READY, or as the fault or RESET leaves it
(R121, R23). The ramp's sign is set at the entry update. -/
def Frame.afterTest (f : Frame) (outcome : TestOutcome) (returnSpeed : Option Int) (startPos : Int) : Frame :=
  match outcome with
  | .completedBreak | .completedNoBreak | .endedByWatch =>
    match returnSpeed with
    | some v => { f with state := .returning,
                         move := some { kind := .returning, target := some startPos, rate := v, reached := false,
                                        settle := none } }
    | none => { f with state := .ready }
  | .aborted | .testFault => { f with state := .ready }
  | .frameFault => f
  | .reset => { f with state := if f.status = .committed then .driveOff else .undefined }

/-- The sequencer after the end of a test; a TEST_LEVEL marker goes low (R120, R123). -/
def Sequencer.afterTest (q : Sequencer) : Sequencer :=
  { q with timer := .stopped, stage := none, timeMark := false, yieldMark := false, fmaxMark := false, running := none,
           marker := if q.markerMode = .testLevel then false else q.marker }

/-- Steps 1 and 2 of the end sequence: the result is closed and enters the result list; no test is in progress (R120). -/
def State.closeResult (s : State) (outcome : TestOutcome) (detail : Nat) : State :=
  (s.onEval fun e => { e with phase := .ended }).onRecs fun r =>
    { r with test := none, results := r.results ++ (r.test.map fun t => s.resultOf t outcome detail).toList }

/-- The test end sequence, one event of the stage sequencer (R120), with the position hold's entry request (R42); the force
channel and the strain source are sent the end as arrivals of their own. The counts go to the result here (log 10). -/
def State.endTest (s : State) (outcome : TestOutcome) (detail : Nat) : State :=
  let returnSpeed := s.program.bind fun p => if p.returnEnabled then some p.returnSpeed else none
  let s1 := s.closeResult outcome detail
  let s2 := s1.record .testEnded (BitVec.ofNat 32 outcome.code) .info
  let s3 := s2.record .resultReady (BitVec.ofNat 32 s2.recs.results.length) .info
  let s4 := s3.onHold fun h => { h with causes := HoldCauses.empty }
  let s5 := s4.onFrame (·.afterTest outcome returnSpeed s.servo.startPos)
  let s6 := s5.onSeq (·.afterTest)
  let s7 := s6.onServo fun v => { v with entry := true }
  (s7.send .breakDetectionTestEnd).send .strainSourceTestEnd

/-! ### Fault effects -/

/-- The frame supervisor's part of a FRAME_FAULT: timers and moves are dropped, the kind enters the fault-cause record, the
frame is FAULTED (R14, R15). -/
def Frame.enterFault (f : Frame) (k : EventKind) (detail time : Word32) : Frame :=
  { f with
    state := .faulted, driveTimer := none, move := none,
    firstCause := if f.state = .faulted then f.firstCause else some { kind := k, detail := detail, time := time },
    causeSet := if f.state = .faulted then (if k ∈ f.causeSet then f.causeSet else f.causeSet ++ [k]) else [k] }

/-- A FRAME_FAULT in any state but UNDEFINED (R14, R183): the frame is FAULTED and a test in progress ends. -/
def State.frameFault (s : State) (k : EventKind) (detail : Word32) : State :=
  if s.frame.state = .undefined then s
  else
    let s1 := s.onFrame (·.enterFault k detail s.clock)
    if s.inTest then s1.endTest .frameFault k.code.val else s1

/-- The effect of a class (R181, R182, R183). -/
def State.classEffect (s : State) (k : EventKind) (detail : Word32) : EventClass → State
  | .info | .warning => s
  | .testFault => if s.inTest then s.endTest .testFault k.code.val else s
  | .frameFault => s.frameFault k detail

/-- An occurrence of a kind: recorded, and then its class takes effect (R179, R181). -/
def State.raise (s : State) (k : EventKind) (detail : Word32) : State :=
  (s.record k detail (s.classOf k)).classEffect k detail (s.classOf k)

/-! ### Hold causes -/

/-- The stage timer paused, with its remaining time (R114). -/
def StageTimer.pause : StageTimer → StageTimer
  | .running r => .paused r
  | t => t

/-- The stage timer running again from its remaining time (R114). -/
def StageTimer.resume : StageTimer → StageTimer
  | .paused r => .running r
  | t => t

/-- Sets a hold cause (R133): in TESTING the test is held, in HELD the cause joins the set, and outside a test there is
nothing to hold (the set is empty whenever no test is in progress, log 23). -/
def State.setHold (s : State) (c : HoldCause) : State :=
  match s.frame.state with
  | .testing =>
    let s1 := s.onHold fun h => { causes := h.causes.add c, count := saturate 65535 h.count 1 }
    let s2 := s1.onFrame fun f => { f with state := .held }
    let s3 := if s.holdsPosition then s2.onServo fun v => { v with entry := true } else s2
    let s4 := if s.pausesTimers then s3.onSeq fun q => { q with timer := q.timer.pause } else s3
    s4.raise .heldEntered (BitVec.ofNat 32 c.code)
  | .held => s.onHold fun h => { h with causes := h.causes.add c }
  | _ => s

/-! ### Stages -/

/-- The time a stage's STAGE_TIME end conditions load, the smaller of two (R114). -/
def Stage.time (g : Stage) : Option Nat :=
  match g.end1.kind, g.end2.kind with
  | .stageTime, .stageTime => some (min g.end1.value.toNat g.end2.value.toNat)
  | .stageTime, _ => some g.end1.value.toNat
  | _, .stageTime => some g.end2.value.toNat
  | _, _ => none

/-- The stage of the running copy with this index. -/
def State.stageAt (s : State) (n : Nat) : Option Stage := s.program.bind fun p => p.stages[n]?

/-- The stage in force (R28). -/
def State.stageInForce (s : State) : Option Stage := s.seq.stage.bind s.stageAt

/-- The stage timer at the entry of a stage; in HELD it is paused at once when timers in hold is STOP (R114). -/
def State.loadedTimer (s : State) (n : Nat) : StageTimer :=
  match (s.stageAt n).bind Stage.time with
  | none => .stopped
  | some t => if s.frame.state = .held ∧ s.pausesTimers = true then .paused t else .running t

/-- The entry of a stage with its entry cause (R113). -/
def State.enterStage (s : State) (n cause : Nat) : State :=
  let timer := s.loadedTimer n
  let s1 := s.onSeq fun q => { q with stage := some n, timeMark := false, timer := timer }
  let s2 := s1.raise .stageEntered (BitVec.ofNat 32 (n + 256 * cause))
  if cause ≠ 0 ∧ (s.program.bind (·.removeBefore)) = some n then s2.send .namedStage else s2

/-- The end of the stage in force, taken at most once at a test point: the next stage is entered, or the last stage's end
ends the test (R118). -/
def State.stageEnd (s : State) (point : Word32) (cause : Nat) : State :=
  if s.seq.lastEnd = some point then s
  else
    let s1 := s.onSeq fun q => { q with lastEnd := some point }
    match s.seq.stage with
    | none => s1
    | some n => if (s.stageAt (n + 1)).isSome then s1.enterStage (n + 1) cause else s1.endTest .completedNoBreak 0

/-! ### The transmit arbiter -/

/-- The EVENT frame of a kind, with its record as it stands when the frame begins (R180, section 11.6). -/
def Events.frameOf (e : Events) (k : EventKind) : LinkFrame :=
  { kind := 0xC0, tag := 0,
    body := match e.record k with
      | some r => [BitVec.ofNat 8 k.code.val, r.cls.code, BitVec.ofNat 8 r.count] ++ bytes32 r.time ++ bytes32 r.detail
      | none => [BitVec.ofNat 8 k.code.val, 0, 0] ++ bytes32 0 ++ bytes32 0 }

/-- The stage index as it is sent: 0xFF for none. -/
def stageByte : Option Nat → Byte
  | some n => BitVec.ofNat 8 n
  | none => 0xFF

/-- The 24 bytes of a stream record (section 11.6). -/
def StreamRecord.bytes (r : StreamRecord) : List Byte :=
  bytes32 r.time ++ bytes32 (signed32 r.p) ++ bytes32 (signed32 r.f) ++ bytes32 (signed32 r.eps) ++
    [stageByte r.stage, r.source.code, r.flags, r.frameState.code] ++ bytes32 (unsigned32 r.lostBefore)

/-- The STREAM frame of a record. -/
def StreamRecord.frame (r : StreamRecord) : LinkFrame := { kind := 0xC1, tag := 0, body := r.bytes }

/-- The arbiter at a frame boundary: with host ready asserted and the transmitter idle it starts the oldest reply, else the
oldest EVENT frame, else the oldest stream record (R195). -/
def Link.arbitrate (l : Link) (ready : Bool) (e : Events) : Link :=
  if ready ∧ l.tx = none then
    match l.replies, l.eventQueue, l.streamQueue with
    | r :: rest, _, _ => { l with replies := rest, tx := some r }
    | [], k :: rest, _ => { l with eventQueue := rest, tx := some (e.frameOf k) }
    | [], [], r :: rest => { l with streamQueue := rest, tx := some r.frame }
    | [], [], [] => l
  else l

/-- Every command ends at a moment at which an idle transmitter takes a waiting frame (R195, log 12). -/
def State.transmit (s : State) : State := s.onLink (·.arbitrate s.inputs.hostReady s.events)

/-! ### Replies -/

/-- What a block answers to a request: status, detail byte and data (section 11.2). -/
structure Reply where
  status : Status
  detail : Byte
  data : List Byte
deriving DecidableEq, Repr

/-- Taken as sent, with data. -/
def Reply.ok (data : List Byte) : Reply := { status := .ok, detail := 0, data := data }

/-- Refused, with a detail; a refused request's reply carries no data (R194). -/
def Reply.refuse (status : Status) (detail : Nat) : Reply :=
  { status := status, detail := BitVec.ofNat 8 detail, data := [] }

/-- The reply frame to a request frame: KIND plus 0x80, the request's TAG, status, detail and data (R194, log 15). -/
def Reply.frame (r : Reply) (kind tag : Byte) : LinkFrame :=
  { kind := kind + 0x80, tag := tag, body := [r.status.code, r.detail] ++ r.data }

/-- A meaning's outcome once its effect is made: the arbiter looks at the transmitter. -/
def State.done (s : State) : Host.Outcome State Fault Refusal := .next s.transmit

end Sys2Proof.Machine
end

