-- ==== Sys2Proof/Machine/Force.lean ====
section
/-! DEFINITION. The force channel (spec/03): the conversion's chain, the tare and the start of a test. -/

namespace Sys2Proof.Machine

/-! ### Linearisation, tare and filter -/

/-- The force on the straight line through two calibration points (R54). -/
def interpolate (a b : CalPoint) (raw : Int) : Int :=
  a.force + roundDiv (form64 ((raw - a.raw) * (b.force - a.force))) (b.raw - a.raw)

/-- The segment of a raw value: the first whose right end lies above it, the last one extended (R54). -/
def linearise : List CalPoint → Int → Int
  | [], _ => 0
  | [a], _ => a.force
  | [a, b], raw => interpolate a b raw
  | a :: b :: c :: rest, raw => if raw < b.raw then interpolate a b raw else linearise (b :: c :: rest) raw

/-- A conversion at either end of the ADC range is over-range (R52). -/
def overRangeRaw (raw : Int) : Bool := raw = -8388608 ∨ raw = 8388607

/-- Over-range check and linearisation of a raw value (R52, R53, R54). -/
def Force.sense (c : Force) (raw : Int) (defn : FrameDefinition) (committed : Bool) : Force :=
  if overRangeRaw raw then { c with raw := raw, overRange := true }
  else { c with raw := raw, overRange := false, fLin := if committed then sat32 (linearise defn.points raw) else 0 }

/-- The rounded mean of a window that is not empty (R58). -/
def meanOf (window : List Int) : Int := form32 (roundDiv (sumOf window) window.length)

/-- Tare and filter: F_net joins the window, the oldest value leaves when it holds more than N, and the filtered force is
the mean (R58). -/
def Force.filter (c : Force) : Force :=
  let grown := c.window ++ [c.fLin - c.tare]
  let window := if c.filterLength < grown.length then grown.drop 1 else grown
  { c with window := window, previous := c.filtered, filtered := meanOf window }

/-- A change of the tare reduces every value of the window; the filtered force is computed again, unless the window is
empty (R56). -/
def Force.retare (c : Force) (tare : Int) : Force :=
  let window := c.window.map fun x => x - (tare - c.tare)
  if window.isEmpty then { c with tare := tare }
  else { c with tare := tare, window := window, filtered := meanOf window, previous := meanOf window }

/-! ### The stages of a conversion -/

/-- FORCE_OVERRANGE at the first conversion of a run, and at every one during a test (R52). -/
def State.checkOverRange (s : State) (before : Bool) : State :=
  if s.force.overRange ∧ (before = false ∨ s.inTest = true) then
    s.raise .forceOverrange (if s.force.raw = 8388607 then 1 else 2)
  else s

/-- The filtered force is beyond the overload level, 110 % of the capacity, in tension or compression (R60). -/
def beyondLevel (filtered capacity : Int) : Bool := capacity * 1100 < filtered.natAbs

/-- The overload check, once the definition is committed (R60). -/
def State.checkOverload (s : State) : State :=
  if s.committed then
    let beyond := beyondLevel s.force.filtered s.frame.defn.capacity
    let before := s.force.overload
    let s1 := s.onForce fun c => { c with overload := beyond }
    if beyond ∧ (before = false ∨ (s.frame.state ≠ .faulted ∧ s.frame.state ≠ .undefined)) then
      s1.raise .overload (signed32 (newtons s.force.filtered))
    else s1
  else s

/-- The program force limit, in tension, while a test is in progress (R61). -/
def State.checkForceLimit (s : State) : State :=
  match s.inTest, s.program with
  | true, some p =>
    if p.forceLimit * 1000 ≤ s.force.filtered then s.raise .forceLimit (signed32 (newtons s.force.filtered)) else s
  | _, _ => s

/-- The break-reference peak and the arming of break detection (R62, R63). -/
def Force.raisePeak (c : Force) (breakMin : Int) : Force :=
  let peak := max c.peak c.filtered
  { c with peak := peak, armed := c.armed || decide (breakMin * 1000 ≤ peak) }

/-- The condition that detects a break, FRACTION when both hold (R64, R65). -/
def Force.breakCondition (c : Force) (breakPct suddenPct : Int) : Option BreakCondition :=
  if c.filtered * 100 < c.peak * breakPct then some .fraction
  else if c.peak * suddenPct < (c.previous - c.filtered) * 100 then some .sudden else none

/-- The break capture, from the most recent test point, or from the idle point when the test has made none (R65). -/
def State.captureOf (s : State) (condition : BreakCondition) : Capture :=
  let point := s.servo.latest
  let made := (s.recs.test.map (·.pointMade)).getD false
  { force := s.force.previous, p := point.p, d := if made then point.d else 0, eps := point.eps, condition := condition,
    time := s.clock }

/-- Peak, arming and break detection at a conversion while a test is in progress (R62 to R65). -/
def State.checkBreak (s : State) : State :=
  match s.inTest, s.program with
  | true, some p =>
    let s1 := s.onForce (·.raisePeak p.breakMin)
    if s1.force.armed ∧ s1.force.capture = none then
      match s1.force.breakCondition p.breakPct p.suddenPct with
      | some condition =>
        let capture := s1.captureOf condition
        (s1.onForce fun c => { c with capture := some capture, breakFlag := true }).raise .breakDetected
          (signed32 (newtons capture.force))
      | none => s1
    else s1
  | _, _ => s

/-- CONVERSION: the chain of a completed conversion (R51). -/
def execConversion (raw : BitVec 24) (s : State) : Host.Outcome State Fault Refusal :=
  let before := s.force.overRange
  let s1 := s.onForce (·.sense raw.toInt s.frame.defn s.committed)
  let s2 := s1.checkOverRange before
  let s3 := s2.onForce (·.filter)
  s3.checkOverload.checkForceLimit.checkBreak.done

/-! ### Test start -/

/-- The force channel's part of a test start: auto-tare, then the peak from the filtered force, nothing armed or captured
(R57, R62). -/
def Force.start (c : Force) (autoTare : Bool) : Force :=
  let c1 := if autoTare then c.retare c.fLin else c
  { c1 with peak := max 0 c1.filtered, armed := false, breakFlag := false, capture := none, previous := c1.filtered }

/-- The force channel's test end: break armed and the break flag are cleared (R66). -/
def State.clearBreak (s : State) : State :=
  if s.inTest then s else s.onForce fun f => { f with armed := false, breakFlag := false }

/-- BREAK_DETECTION_TEST_END: the force channel takes the end of a test (R66). -/
def execBreakDetectionTestEnd (s : State) : Host.Outcome State Fault Refusal :=
  (s.taken .breakDetectionTestEnd).clearBreak.done

end Sys2Proof.Machine
end

