-- ==== Sys2Proof/Machine/Strain.lean ====
section
/-! DEFINITION. The strain source (spec/05): samples, zero, derived strain and switches, removal, loss, and its arrivals. -/

namespace Sys2Proof.Machine

/-! ### Strain -/

/-- The extensometer strain of a held mean (R87). -/
def extensometerStrain (mean zero gauge : Int) : Int := roundDiv (form64 ((mean - zero) * 100000)) gauge

/-- The strain source's extensometer strain; it has a zero and a gauge length in ZEROED and FOLLOWING. -/
def Strain.following (x : Strain) : Int :=
  match x.zero, x.gauge with
  | some z, some g => extensometerStrain x.heldMean z g
  | _, _ => 0

/-- The crosshead strain: displacement less the frame's stretch, over the parallel length (R90). -/
def crossheadStrain (compliance force d parallel : Int) : Int :=
  let correction := roundDiv (form64 (compliance * force)) 1000000000
  roundDiv (form64 ((d - correction) * 10000000)) parallel

/-- The test strain a strain source gives outside a test (spec/05, chapter head; R104). -/
def Strain.outside (x : Strain) : Int := if x.state = .zeroed then x.following else 0

/-! ### Switches, removal and loss -/

/-- The receiver's lock gives FITTED, its absence ABSENT (R96, R102). -/
def State.unzeroedState (s : State) : StrainState := if s.ext.state = .locked then .fitted else .absent

/-- A removal trigger taken during a test in FOLLOWING begins the removal; in any other state it has no effect (R93, R94). -/
def State.removalTrigger (s : State) : State :=
  match s.program with
  | some p =>
    if s.inTest ∧ s.strain.state = .following then
      s.onStrain fun x =>
        { x with state := .removing, pendingSwitch := some s.servo.latest.eps,
                 removalStrain := some s.servo.latest.eps, switchCount := x.switchCount + 1, ofTest := true,
                 timer := some p.removalTime, removalTime := p.removalTime, removalBegan := s.clock }
    else s
  | none => s

/-- EXT_LOST raised, and its handling by the class at detection (R101): with WARNING and ext_lost_action HOLD the hold cause
EXT_LOST is set. -/
def State.raiseLost (s : State) (detail : Nat) : State :=
  let s1 := s.raise .extLost (BitVec.ofNat 32 detail)
  if s.classOf .extLost = .warning ∧ s.program.any (fun p => p.extLostAction = .hold) = true then s1.setHold .extLost
  else s1

/-- The strain source's test end (R102), taken from its test states once the test has ended. -/
def State.strainTestEnd (s : State) : State :=
  if s.inTest then s
  else
    let next := match s.strain.state with
      | .following | .derived => some s.unzeroedState
      | .removing => some .removing
      | .absent | .fitted | .zeroed => none
    match next with
    | some st =>
      s.onStrain fun x =>
        { x with state := st, zero := none, gauge := none, pendingSwitch := none, ofTest := false }
    | none => s

/-- A block takes its arrivals in the order they were sent: a test end that is on its way to the strain source is taken
before the strain source is asked for a strain (R47, R104, log 8). -/
def State.settleStrain (s : State) : State :=
  if Notice.strainSourceTestEnd ∈ s.mail then (s.taken .strainSourceTestEnd).strainTestEnd else s

/-- Both test-end arrivals, where they are still on their way (log 8). -/
def State.settleEnds (s : State) : State :=
  let s1 := s.settleStrain
  if Notice.breakDetectionTestEnd ∈ s1.mail then (s1.taken .breakDetectionTestEnd).clearBreak else s1

/-! ### The servo update's request for a strain (R86) -/

/-- The held mean and starvation count from the good samples taken, and the counts of the test (R86). -/
def Strain.take (x : Strain) (samples : List Sample) (inTest : Bool) : Strain :=
  let good := samples.filter fun y => !y.checkBad
  let x1 := if good.isEmpty then { x with starvation := saturate 65535 x.starvation 1 }
    else { x with heldMean := roundDiv (sumOf (good.map (·.elongation))) good.length, starvation := 0 }
  if inTest then
    { x1 with gapCount := saturate 65535 x1.gapCount (samples.filter (·.gap)).length,
              badCount := saturate 65535 x1.badCount (samples.filter (·.checkBad)).length }
  else x1

/-- EXT_GAP for each sample taken with GAP set, in order (R82). -/
def State.raiseGaps (s : State) (samples : List Sample) : State :=
  samples.foldl (fun t y => if y.gap then t.raise .extGap (BitVec.ofNat 32 y.lost) else t) s

/-- The drain of the sample FIFO (R82, R86; the counts are made as the samples are taken, log 9). -/
def State.drain (s : State) : State :=
  let samples := s.ext.fifo
  let s1 := s.onExt fun r => { r with fifo := [] }
  let s2 := s1.onStrain (·.take samples s.inTest)
  (s2.raiseGaps samples).settleStrain

/-- A loss by starvation in FOLLOWING: the switch is completed at once with the strain of the update before (R100). -/
def State.starve (s : State) (xh : Int) : State :=
  if s.inTest ∧ s.strain.state = .following ∧ 20 ≤ s.strain.starvation then
    let carry := s.servo.latest.eps
    let s1 := s.onStrain fun x => { x with state := .derived, k := carry - xh, switchCount := x.switchCount + 1 }
    (s1.raiseLost 2).settleStrain
  else s

/-- The strain given at this update after the drain and the starvation check, with a pending switch completed
(R90, R91, R100): the state after it and the test strain. -/
def State.giveStrain (s : State) (xh : Int) (starved : Option Int) : State × Int :=
  if s.inTest then
    match s.strain.state with
    | .following => (s, s.strain.following)
    | .removing | .derived =>
      match s.strain.pendingSwitch with
      | some carry => (s.onStrain fun x => { x with k := carry - xh, pendingSwitch := none }, carry)
      | none => (s, starved.getD (sat32 (xh + s.strain.k)))
    | _ => (s, 0)
  else (s, s.strain.outside)

/-- What the strain source does when the servo loop asks for the test strain (R26, R86). -/
def State.strainStep (s : State) (p force : Int) : State × Int :=
  let s1 := s.settleStrain.drain
  let xh := crossheadStrain s1.frame.defn.compliance force (p - s1.servo.startPos) s1.strain.parallel
  let starves := s1.inTest ∧ s1.strain.state = .following ∧ 20 ≤ s1.strain.starvation
  let s2 := s1.starve xh
  s2.giveStrain xh (if starves then some s1.servo.latest.eps else none)

/-! ### Test start (R92) -/

/-- The strain source's part of a test start. -/
def Strain.start (x : Strain) (parallel : Int) : Strain :=
  let x1 := { x with parallel := parallel, gapCount := 0, badCount := 0, switchCount := 0, removalStrain := none,
                     ofTest := false }
  match x.state with
  | .zeroed => { x1 with state := .following }
  | .absent | .fitted => { x1 with state := .derived, pendingSwitch := some 0 }
  | .removing => { x1 with pendingSwitch := some 0 }
  | .following | .derived => x1

/-! ### Arrivals -/

/-- RECEIVER_ENTERS_LOCKED: ABSENT becomes FITTED (R88). -/
def execReceiverEntersLocked (s : State) : Host.Outcome State Fault Refusal :=
  let s1 := s.taken .receiverEntersLocked
  (if s1.strain.state = .absent then s1.onStrain fun x => { x with state := .fitted } else s1).done

/-- RECEIVER_LEAVES_LOCKED without a loss of presence: FITTED becomes ABSENT (R88). -/
def execReceiverLeavesLocked (s : State) : Host.Outcome State Fault Refusal :=
  let s1 := s.taken .receiverLeavesLocked
  (if s1.strain.state = .fitted then s1.onStrain fun x => { x with state := .absent } else s1).done

/-- Presence becoming deasserted, at the strain source (R88, R98, R99); in FOLLOWING between the end sequence and the test-end
arrival too (log 39). -/
def State.strainPresenceLost (s : State) : State :=
  match s.strain.state with
  | .fitted | .zeroed => s.onStrain fun x => { x with state := .absent, zero := none, gauge := none }
  | .following =>
    let s1 := s.onStrain fun x =>
      { x with state := .derived, pendingSwitch := some s.servo.latest.eps, switchCount := x.switchCount + 1 }
    s1.raiseLost 1
  | .absent | .removing | .derived => s

/-- RETRACTED_INPUT_RISES: in REMOVING the removal is complete (R96). A test end already on its way to the strain source is
taken first; R103 gives both orders one outcome (log 8). -/
def execRetractedInputRises (s : State) : Host.Outcome State Fault Refusal :=
  let s1 := s.settleStrain.onInputs fun i => { i with retracted := true }
  (if s1.strain.state = .removing then
    let s2 := s1.onStrain fun x =>
      { x with state := if s1.inTest then .derived else s1.unzeroedState, timer := none, ofTest := false }
    s2.raise .extRemoved (s1.clock - s1.strain.removalBegan)
  else s1).done

/-- REMOVAL_TIMER_EXPIRY: EXT_REMOVAL_TIMEOUT with its effect by class; the output stays asserted (R97). -/
def execRemovalTimerExpiry (s : State) : Host.Outcome State Fault Refusal :=
  (if s.strain.state = .removing ∧ s.strain.timer.isSome then
    let s1 := s.onStrain fun x => { x with timer := none }
    let s2 := s1.raise .extRemovalTimeout (BitVec.ofNat 32 s.strain.removalTime)
    if s.classOf .extRemovalTimeout = .warning ∧ s.strain.ofTest = true then s2.setHold .removal else s2
  else s).done

/-- NECKING_NOTICE: a removal trigger when the program sets remove at NECKING (R93). -/
def execNeckingNotice (s : State) : Host.Outcome State Fault Refusal :=
  let s1 := s.taken .necking
  (if s1.program.any (·.removeAtNecking) = true then s1.removalTrigger else s1).done

/-- NAMED_STAGE_NOTICE: a removal trigger (R93). -/
def execNamedStageNotice (s : State) : Host.Outcome State Fault Refusal :=
  (s.taken .namedStage).removalTrigger.done

/-- WATCH_REMOVAL_TRIGGER: a removal trigger (R93, R130). -/
def execWatchRemovalTrigger (s : State) : Host.Outcome State Fault Refusal :=
  (s.taken .watchRemoval).removalTrigger.done

/-- REMOVAL_TRIGGER_TEST_POINT: the strain source takes its next test point for the removal strain (R93). -/
def execRemovalTriggerTestPoint (s : State) : Host.Outcome State Fault Refusal :=
  (match s.points.removal with
    | [] => s
    | point :: rest =>
      let s1 := s.onPoints fun d => { d with removal := rest }
      match s1.program.bind (·.removalStrain) with
      | some level => if level ≤ point.eps then s1.removalTrigger else s1
      | none => s1).done

/-- STRAIN_SOURCE_TEST_END: the strain source takes the end of a test (R102). -/
def execStrainSourceTestEnd (s : State) : Host.Outcome State Fault Refusal :=
  (s.taken .strainSourceTestEnd).strainTestEnd.done

end Sys2Proof.Machine
end

