-- ==== Sys2Proof/Machine/Extensometer.lean ====
section
/-! DEFINITION. The extensometer receiver (spec/04): finding and checking frames, sample records, the sample FIFO, presence. -/

namespace Sys2Proof.Machine

/-! ### The receiver's states -/

/-- Entry to HUNT: the assembly is discarded, the byte timer stopped, the consecutive bad count 0 (R73 to R79). -/
def Receiver.hunt (r : Receiver) : Receiver :=
  { r with state := .hunt, place := 0, body := [], timer := none, badCount := 0 }

/-- A byte taken in HUNT: 0xB5 is the possible start of a frame (R73). -/
def Receiver.huntByte (r : Receiver) (b : Byte) : Receiver :=
  if b = 0xB5 then { r with state := .syncA, place := 2, body := [], timer := some 2 } else r

/-- Entry to INHIBITED (R72). -/
def Receiver.inhibit (r : Receiver) : Receiver :=
  { r with state := .inhibited, place := 0, body := [], timer := none, seqRef := none, badCount := 0, pendingDrop := 0,
           fifo := [], latest := none }

/-! ### The frame check and the sample record -/

/-- The check of the five body bytes: their sum is 0 modulo 256 (R71). -/
def checkGood (body : List Byte) : Bool := body.foldl (· + ·) 0 = (0 : Byte)

/-- The signed 24-bit elongation of a body (R71). -/
def elongationOf (body : List Byte) : Int := (at8 body 2 ++ (at8 body 1 ++ at8 body 0)).toInt

/-- The sequence of a body's status byte (R71). -/
def sequenceOf (body : List Byte) : BitVec 4 := (at8 body 3).extractLsb' 0 4

/-- The over-travel indication of a body's status byte (R71). -/
def overtravelOf (body : List Byte) : Bool := (at8 body 3).getLsbD 4

/-- The frames inferred lost before a good frame: (s − r − 1) modulo 16 (R80). -/
def inferredLoss (reference : Option (BitVec 4)) (sequence : BitVec 4) : Nat :=
  match reference with
  | some r => (sequence - r - 1).toNat
  | none => 0

/-- The sample record of a checked frame (R80): its lost count is the inferred loss plus the pending drops, for a sample that
will be dropped too. The overrun table of section 4.5 leaves the pending drops out of a dropped sample's lost count; the model
follows the words of R80 (DESIGN CHOICE, log 43). -/
def Receiver.sampleOf (r : Receiver) (body : List Byte) : Sample :=
  let good := checkGood body
  let lost := saturate 255 (if good then inferredLoss r.seqRef (sequenceOf body) else 0) r.pendingDrop
  { elongation := elongationOf body, checkBad := !good, overtravel := overtravelOf body, gap := decide (0 < lost),
    lost := lost }

/-- The offer of a sample to the four-entry FIFO (R81). A drop raises the pending drop count by 1 plus the lost count of the
dropped sample, as the words of R81 have it; the overrun table of section 4.5 counts 1 a drop (DESIGN CHOICE, log 43). -/
def Receiver.offer (r : Receiver) (x : Sample) : Receiver :=
  if r.fifo.length < 4 then { r with fifo := r.fifo ++ [x], pendingDrop := 0, latest := some x }
  else { r with pendingDrop := saturate 255 r.pendingDrop (1 + x.lost), latest := some x }

/-- The delivery of a checked frame: its record is made, the reference follows a good frame, the record is offered (R77,
R80, R81). -/
def Receiver.deliver (r : Receiver) (body : List Byte) : Receiver :=
  let x := r.sampleOf body
  let r1 := if checkGood body then { r with seqRef := some (sequenceOf body) } else r
  r1.offer x

/-! ### Taking a byte -/

/-- The byte joins the body; the byte timer restarts. -/
def Receiver.collect (r : Receiver) (b : Byte) : Receiver :=
  { r with body := r.body ++ [b], place := r.place + 1, timer := some 2 }

/-- The sync byte expected at a place, if the place is one of the pair. -/
def syncAt : Nat → Option Byte
  | 1 => some 0xB5
  | 2 => some 0x4E
  | _ => none

/-- The receiver returns to place 1 for the next frame; the check byte has restarted the byte timer (R74, R77). -/
def Receiver.nextFrame (r : Receiver) (st : ReceiverState) : Receiver :=
  { r with state := st, place := 1, body := [], timer := some 2 }

/-- A sync place of CONFIRM or LOCKED that holds its byte. -/
def Receiver.syncTaken (r : Receiver) : Receiver := { r with place := r.place + 1, timer := some 2 }

/-- A byte of FIRST: the seventh byte checks the frame (R74). -/
def Receiver.firstByte (r : Receiver) (b : Byte) : Receiver :=
  let r1 := r.collect b
  if r.place < 7 then r1
  else if checkGood r1.body then { r1.nextFrame .confirm with seqRef := some (sequenceOf r1.body) } else r1.hunt

/-- A byte of CONFIRM (R75): a mismatch or a bad check goes to HUNT, a good check locks and delivers the first sample. -/
def State.confirmByte (s : State) (b : Byte) : State :=
  let r := s.ext
  match syncAt r.place with
  | some sync =>
    if b = sync then s.onExt (·.syncTaken) else s.onExt fun r => ({ r.hunt with seqRef := none }).huntByte b
  | none =>
    let r1 := r.collect b
    if r.place < 7 then s.onExt fun _ => r1
    else if checkGood r1.body then
      (s.onExt fun _ => (r1.nextFrame .locked).deliver r1.body).onExt (fun x => { x with badCount := 0 })
        |>.send .receiverEntersLocked
    else s.onExt fun _ => { r1.hunt with seqRef := none }

/-- A slip in LOCKED (R76): EXT_SLIP, HUNT, and the byte is examined again. -/
def State.slip (s : State) (b : Byte) : State :=
  let s1 := s.raise .extSlip (BitVec.ofNat 32 (b.toNat + 256 * s.ext.place))
  (s1.onExt fun r => r.hunt.huntByte b).send .receiverLeavesLocked

/-- A bad frame in LOCKED (R78): the third in a row goes to HUNT. -/
def State.badFrame (s : State) (r1 : Receiver) : State :=
  let count := r1.badCount + 1
  let x := r1.sampleOf r1.body
  let s1 := s.onExt fun _ => { r1.nextFrame .locked with badCount := count }
  let s2 := s1.raise .extCheck (BitVec.ofNat 32 count)
  let s3 := s2.onExt (·.offer x)
  if 3 ≤ count then (s3.onExt (·.hunt)).send .receiverLeavesLocked else s3

/-- A byte of LOCKED (R76, R77, R78). -/
def State.lockedByte (s : State) (b : Byte) : State :=
  let r := s.ext
  match syncAt r.place with
  | some sync => if b = sync then s.onExt (·.syncTaken) else s.slip b
  | none =>
    let r1 := r.collect b
    if r.place < 7 then s.onExt fun _ => r1
    else if checkGood r1.body then
      s.onExt fun _ => ({ r1.nextFrame .locked with badCount := 0 }).deliver r1.body
    else s.badFrame r1

/-- EXT_BYTE: a byte from the data pair, taken as the receiver state decides (R70, R73 to R78). -/
def execExtByte (b : Byte) (s : State) : Host.Outcome State Fault Refusal :=
  (match s.ext.state with
    | .inhibited => s
    | .hunt => s.onExt (·.huntByte b)
    | .syncA =>
      if b = 0x4E then s.onExt fun r => { r with state := .first, place := 3, body := [], timer := some 2 }
      else s.onExt fun r => r.hunt.huntByte b
    | .first => s.onExt (·.firstByte b)
    | .confirm => s.confirmByte b
    | .locked => s.lockedByte b).done

/-- EXT_BYTE_TIMER_EXPIRY: from the four states in which the timer runs the receiver enters HUNT; from LOCKED the sequence
reference is kept (R79). -/
def execExtByteTimerExpiry (s : State) : Host.Outcome State Fault Refusal :=
  (match s.ext.state with
    | .inhibited | .hunt => s
    | .syncA | .first | .confirm => s.onExt fun r => { r.hunt with seqRef := none }
    | .locked => (s.onExt (·.hunt)).send .receiverLeavesLocked).done

/-- PRESENCE_DEASSERTED: the receiver is INHIBITED (R72), and the strain source takes the loss (R88, R98, R99). Lock notices
still on their way came before it and are taken out (log 8). -/
def execPresenceDeasserted (s : State) : Host.Outcome State Fault Refusal :=
  let s1 := s.onInputs fun i => { i with presence := false }
  let s2 := s1.onExt (·.inhibit)
  let s3 := s2.onMail fun m => m.filter fun n => n ≠ .receiverEntersLocked ∧ n ≠ .receiverLeavesLocked
  s3.strainPresenceLost.done

/-- PRESENCE_ASSERTED: the receiver leaves INHIBITED for HUNT (R72). -/
def execPresenceAsserted (s : State) : Host.Outcome State Fault Refusal :=
  let s1 := s.onInputs fun i => { i with presence := true }
  (if s1.ext.state = .inhibited then s1.onExt (·.hunt) else s1).done

end Sys2Proof.Machine
end

