-- ==== Sys2Proof/Machine/Servo.lean ====
section
/-! DEFINITION. The servo loop (spec/02): the servo update's four steps, and the frame supervisor's part of it (R6, R18, R21,
R23). -/

namespace Sys2Proof.Machine

/-! ### Time (log 3) -/

/-- The stage timer counts with the millisecond clock while it runs (R114). -/
def StageTimer.tick : StageTimer → StageTimer
  | .running r => .running (r - 1)
  | t => t

/-- A servo update comes 1.000 ms after the one before: the clock advances and every running timer counts down (log 3). -/
def State.tick (s : State) : State :=
  { s with
    clock := s.clock + 1
    frame := { s.frame with driveTimer := countDown s.frame.driveTimer,
                            move := s.frame.move.map fun m => { m with settle := countDown m.settle } }
    ext := { s.ext with timer := countDown s.ext.timer }
    strain := { s.strain with timer := countDown s.strain.timer }
    seq := { s.seq with timer := s.seq.timer.tick }
    link := { s.link with rxTimer := countDown s.link.rxTimer }
    stream := { s.stream with timer := countDown s.stream.timer } }

/-- The position at a servo update: 0 before commit (R6). -/
def Frame.position (f : Frame) : Int :=
  if f.status = .committed then roundDiv (f.rawCount.toInt * f.defn.nmPerCount) 1000 + f.offset else 0

/-! ### What the loop controls (R28) -/

/-- What R28 resolves for an update. -/
structure Resolved where
  channel : Channel
  rate : Int
  target : Option Int
deriving DecidableEq, Repr

/-- The target a stage has: the value of its TARGET end condition (R28). -/
def Stage.target (g : Stage) : Option Int :=
  if g.end1.kind = .target then some g.end1.value
  else if g.end2.kind = .target then some g.end2.value else none

/-- Channel, effective rate and target of an update in a controlling state (R28, R30): the override scales the rate of the
stage in force in TESTING alone. -/
def State.resolve (s : State) : Resolved :=
  match s.frame.state with
  | .testing =>
    match s.stageInForce with
    | some g => { channel := g.channel, rate := Int.tdiv (form64 (g.rate * s.servo.override)) 100, target := g.target }
    | none => { channel := .position, rate := 0, target := none }
  | .held =>
    if s.holdsPosition then { channel := .position, rate := 0, target := none }
    else { channel := (s.stageInForce.map (·.channel)).getD .position, rate := 0, target := none }
  | .moving | .returning =>
    match s.frame.move with
    | some m => { channel := .position, rate := m.rate, target := m.target }
    | none => { channel := .position, rate := 0, target := none }
  | .ready | .undefined | .driveOff | .enabling | .faulted => { channel := .position, rate := 0, target := none }

/-- The gains of a channel (R8). -/
def Frame.gains (f : Frame) : Channel → Gains
  | .position => f.gainsPosition
  | .force => f.gainsForce
  | .strain => f.gainsStrain

/-- The feedback of a channel (spec/02, chapter head). -/
def feedback (p force eps : Int) : Channel → Int
  | .position => p
  | .force => force
  | .strain => eps

/-! ### The control computation -/

/-- Tracking: demand 0, the setpoint at the position, everything else empty (R29). -/
def Servo.track (v : Servo) (p : Int) : Servo :=
  { v with uLast := 0, dac := 0, channel := .position, sp := p, q := 0, iAcc := 0, entry := false }

/-- The feed-forward term of a rate (R34). -/
def feedForward (rate kf : Int) : Int := roundDiv (form128 (rate * kf)) 65536

/-- A bumpless entry: the setpoint at the feedback, the integrator preset from the last demand (R40). -/
def Servo.enter (v : Servo) (y rate : Int) (g : Gains) : Servo :=
  { v with sp := y, q := 0, iAcc := sat64 ((v.uLast - feedForward rate g.kf) * 65536) }

/-- The setpoint advance of R32, before the target. -/
def advanced (sp q rate : Int) : Int × Int :=
  let t := q + rate
  let step := t / 1000
  (sp + step, t - 1000 * step)

/-- The setpoint advance with the target clamp (R32, R33). -/
def advance (sp q rate : Int) (target : Option Int) : Int × Int :=
  match target with
  | none => advanced sp q rate
  | some goal =>
    if rate = 0 then advanced sp q rate
    else if sp = goal then (goal, 0)
    else
      let a := advanced sp q rate
      if (0 < rate ∧ sp < goal ∧ goal ≤ a.1) ∨ (rate < 0 ∧ goal < sp ∧ a.1 ≤ goal) then (goal, 0) else a

/-- The trial demand and the integrator after the freeze decision (R34, R35). -/
def controlLaw (e rate iAcc vmax : Int) (g : Gains) : Int × Int :=
  let ff := feedForward rate g.kf
  let prop := roundDiv (form128 (g.kp * e)) 65536
  let iNew := sat64 (form128 (iAcc + g.ki * e))
  let trial := ff + prop + roundDiv iNew 65536
  if (vmax < trial ∧ 0 < e) ∨ (trial < -vmax ∧ e < 0) then (ff + prop + roundDiv iAcc 65536, iAcc) else (trial, iNew)

/-- Which travel limit the gating holds the demand against, if it acts (R36). -/
inductive Gate where
  | none | travelMax | travelMin
deriving DecidableEq, Repr

/-- The travel gating of a clamped demand (R36). -/
def gateOf (d : FrameDefinition) (p u : Int) : Gate :=
  if d.travelMax ≤ p ∧ 0 < u then .travelMax else if p ≤ d.travelMin ∧ u < 0 then .travelMin else .none

/-- The DAC code of a demand (R2). -/
def dacCode (u vmax : Int) : Int := roundDiv (u * 32767) vmax

/-- The voltage of the analogue speed demand, in V: the DAC code × 10 / 32,767 (R2). An output, so it follows from the state as
the drive enable output does (log 32). -/
def Servo.voltage (v : Servo) : Rat := v.dac * 10 / 32767

/-- The sign of the return ramp, set at the entry update from the setpoint it sets (R23). -/
def Frame.signReturn (f : Frame) (sp : Int) : Frame :=
  { f with move := f.move.map fun m =>
      match m.kind, m.target with
      | .returning, some goal =>
        { m with rate := if sp < goal then m.rate.natAbs else if goal < sp then -(m.rate.natAbs : Int) else 0 }
      | _, _ => m }

/-- The control computation of an update (sections 2.3 to 2.6): a bumpless entry where one is called for (R39), the advance,
the control law, the clamp and the gating. An entry made outside a test is that of the end of a test, with rate 0 (R42), in MOVING too (log 20). -/
def State.control (s : State) (p force eps : Int) : State × Gate :=
  if s.frame.state.tracks then (s.onServo (·.track p), .none)
  else
    let r := s.resolve
    let g := s.frame.gains r.channel
    let y := feedback p force eps r.channel
    let entering := s.servo.entry ∨ r.channel ≠ s.servo.channel
    let rate := if entering ∧ ¬ s.inTest = true then 0 else r.rate
    let v1 := if entering then s.servo.enter y rate g else s.servo
    let f1 := if entering ∧ s.frame.state = .returning then s.frame.signReturn v1.sp else s.frame
    let a := advance v1.sp v1.q rate r.target
    let law := controlLaw (a.1 - y) rate v1.iAcc s.frame.defn.vmax g
    let clamped := limit (-s.frame.defn.vmax) s.frame.defn.vmax law.1
    let gate := gateOf s.frame.defn p clamped
    let u := if gate = .none then clamped else 0
    ({ s with frame := f1
              servo := { v1 with channel := r.channel, sp := a.1, q := a.2, iAcc := law.2, uLast := u,
                                 dac := dacCode u s.frame.defn.vmax, entry := false } }, gate)

/-! ### The frame supervisor at an update (R18, R21) -/

/-- The end of a move: no move record, the frame READY (R21, R22). -/
def Frame.endMove (f : Frame) : Frame := { f with move := none, state := .ready }

/-- The setpoint at a position, with remainder 0; the integrator is kept (R18, R22). -/
def Servo.freeze (v : Servo) (p : Int) : Servo := { v with sp := p, q := 0 }

/-- A move that has not completed ends at a travel limit where the gating acts (R18). DESIGN CHOICE (log 46): this holds of a
JOG toward a limit already reached too, so one whose demand is 0 or points inward goes on until an update at which the gating
acts, where R18's last sentence has it end at the first update. -/
def State.limitMove (s : State) (p : Int) (gate : Gate) (m : Move) : State :=
  if gate = .none then s.onFrame fun f => { f with move := some m }
  else
    let s1 := (s.onFrame (·.endMove)).onServo (·.freeze p)
    match m.kind, m.target with
    | .returning, some goal => s1.raise .moveIncomplete (signed32 (p - goal))
    | _, _ => s1

/-- The supervisor's part of an update in MOVING and RETURNING: target reached, completion, and the travel limit (R18,
R21, log 19). -/
def State.superviseMove (s : State) (p : Int) (gate : Gate) (m : Move) : State :=
  let m1 := if m.target = some s.servo.sp ∧ m.reached = false then { m with reached := true, settle := some 5000 } else m
  match m1.reached, m1.target with
  | true, some goal =>
    if (p - goal).natAbs ≤ 50 then
      let s1 := s.onFrame (·.endMove)
      if m1.kind = .returning then s1.raise .returnDone (signed32 (p - goal)) else s1
    else s.limitMove p gate m1
  | _, _ => s.limitMove p gate m1

/-- TRAVEL_LIMIT during a test: at the first update at which the gating acts, and again after one at which it did not
(R18). -/
def State.superviseTest (s : State) (gate : Gate) : State :=
  let s1 := s.onFrame fun f => { f with gateActed := gate ≠ .none }
  if s.frame.gateActed then s1
  else match gate with
    | .none => s1
    | .travelMax => s1.raise .travelLimit 1
    | .travelMin => s1.raise .travelLimit 2

/-- The frame supervisor's part of a servo update (R18, R21). -/
def State.supervise (s : State) (p : Int) (gate : Gate) : State :=
  match s.frame.state with
  | .moving | .returning =>
    match s.frame.move with
    | some m => s.superviseMove p gate m
    | none => s
  | .testing | .held => s.superviseTest gate
  | .undefined | .driveOff | .enabling | .ready | .faulted => s

/-! ### The point (R45 to R47) -/

/-- The test point of an update (R45). -/
def State.testPoint (s : State) (p force eps : Int) : Point :=
  { isTest := true, time := s.clock, testTime := s.clock - s.servo.startTime, p := p, d := p - s.servo.startPos, f := force,
    eps := eps, source := s.strain.state, stage := s.seq.stage, held := s.frame.state = .held }

/-- The idle point of an update (R47). -/
def State.idlePoint (s : State) (p force : Int) : Point :=
  { isTest := false, time := s.clock, testTime := 0, p := p, d := 0, f := force, eps := s.strain.outside,
    source := s.strain.state, stage := none, held := false }

/-- Step 4: the test point, delivered to the four blocks that follow the test, or the idle point (R45, R46, R47). -/
def State.makePoint (s : State) (p force eps : Int) : State :=
  if s.inTest then
    let point := s.testPoint p force eps
    ((s.onServo fun v => { v with latest := point, testTime := point.testTime }).onRecs fun r =>
        { r with test := r.test.map fun t => { t with pointMade := true } }).onPoints fun d =>
      { sequencer := d.sequencer ++ [point], watch := d.watch ++ [point], evaluation := d.evaluation ++ [point],
        removal := d.removal ++ [point] }
  else
    let s1 := s.settleStrain
    s1.onServo fun v => { v with latest := s1.idlePoint p force }

/-- The loop's state as it stands at this update, for GET_STATUS (R48). -/
def Servo.report (v : Servo) : Servo :=
  { v with reported := { channel := v.channel, sp := v.sp, q := v.q, uLast := v.uLast, override := v.override } }

/-- The four steps of a servo update (R26), after which GET_STATUS reports this update (R48). -/
def State.servoStep (s : State) : State :=
  let p := s.frame.position
  let force := s.force.filtered
  let given := s.strainStep p force
  let driven := given.1.control p force given.2
  ((driven.1.supervise p driven.2).makePoint p force given.2).onServo (·.report)

/-- SERVO_UPDATE (R26): the millisecond has passed, the encoder is read, and the four steps are made. -/
def execServoUpdate (encoder : Word32) (retractedStill : Bool) (s : State) : Host.Outcome State Fault Refusal :=
  let s1 := s.tick
  let s2 := s1.onFrame fun f => { f with rawCount := encoder }
  let s3 := s2.onInputs fun i => { i with retracted := i.retracted && retractedStill }
  s3.servoStep.done

end Sys2Proof.Machine
end

