-- ==== Sys2Proof/Machine/Frame.lean ====
section
/-! DEFINITION. The frame supervisor (spec/01): its requests, the drive's and the cabinet's lines, its timers. A request's
handler gives the reply and the state after it; a refused request leaves the state as it was. -/

namespace Sys2Proof.Machine

/-! ### The frame definition (R3 to R5) -/

/-- The definition as stored from a DEFINE_FRAME body (R3): every value as sent. -/
def storedDefinition (d : RawDefinition) : FrameDefinition :=
  { capacity := d.capacity.toInt, vmax := d.vmax.toInt, travelMin := d.travelMin.toInt, travelMax := d.travelMax.toInt,
    nmPerCount := d.nmPerCount.toInt, compliance := d.compliance.toInt,
    points := d.points.map fun x => { raw := x.raw.toInt, force := x.force.toInt } }

/-- DEFINE_FRAME (R3); LOCKED comes before the length check (log 14). -/
def handleDefineFrame (d : Option RawDefinition) (s : State) : Reply × State :=
  if s.committed then (.refuse .locked 0, s)
  else match d with
    | none => (.refuse .badLength 0, s)
    | some d => (.ok [], s.onFrame fun f => { f with defn := storedDefinition d })

/-- The value lies in a range. -/
def within (lo hi x : Int) : Bool := lo ≤ x ∧ x ≤ hi

/-- The first index of a list of checks that fails. -/
def firstFailing : List (Nat × Bool) → Option Nat
  | [] => none
  | (index, passed) :: rest => if passed then firstFailing rest else some index

/-- The checks of the calibration points from point i on: raw within the ADC range, and above the raw before it (R4). -/
def pointChecks : Nat → Option Int → List CalPoint → List (Nat × Bool)
  | _, _, [] => []
  | i, before, x :: rest =>
    (8 + i, within (-8388608) 8388607 x.raw && before.all fun b => decide (b < x.raw)) ::
      pointChecks (i + 1) (some x.raw) rest

/-- The checks of COMMIT_FRAME in the order of their indices (section 1.2, R4). -/
def FrameDefinition.checks (d : FrameDefinition) : List (Nat × Bool) :=
  [(1, within 1000 2000000 d.capacity), (2, within 1 30000 d.vmax), (3, within (-100000) 1500000 d.travelMin),
   (4, within (-100000) 1500000 d.travelMax && decide (d.travelMin + 10000 ≤ d.travelMax)),
   (5, within 1 10000 d.nmPerCount), (6, within 0 100000 d.compliance), (7, within 2 9 d.points.length)] ++
    pointChecks 0 none d.points

/-- The conditions that asserted cabinet inputs make, in the order of R15, with the details of R16. -/
def inputCauses (i : Inputs) : List (EventKind × Word32) :=
  (if i.estop then [(.estop, 0)] else []) ++ (if i.upper then [(.limitSwitch, 1)] else []) ++
    (if i.lower then [(.limitSwitch, 2)] else [])

/-- A cabinet input is asserted. -/
def anyCabinet (i : Inputs) : Bool := i.estop || i.upper || i.lower

/-- The committed frame: DRIVE_OFF, or FAULTED with the asserted conditions entered in the fault-cause record (R5, R15). -/
def Frame.commit (f : Frame) (i : Inputs) (time : Word32) : Frame :=
  { f with status := .committed, state := if anyCabinet i then .faulted else .driveOff,
           firstCause := (inputCauses i).head?.map fun c => { kind := c.1, detail := c.2, time := time },
           causeSet := ((inputCauses i).map (·.1)).dedup }

/-- COMMIT_FRAME (R4, R5); the force channel empties its filter window (R53). -/
def handleCommitFrame (s : State) : Reply × State :=
  if s.committed then (.refuse .locked 0, s)
  else match firstFailing s.frame.defn.checks with
    | some index => (.refuse .badValue index, s)
    | none => (.ok [], (s.onFrame (·.commit s.inputs s.clock)).onForce fun c => { c with window := [] })

/-! ### Gains (R8) -/

/-- A frame with the gains of one channel replaced. -/
def Frame.setGains (f : Frame) (c : Channel) (g : Gains) : Frame :=
  match c with
  | .position => { f with gainsPosition := g }
  | .force => { f with gainsForce := g }
  | .strain => { f with gainsStrain := g }

/-- A gain as sent lies within 0..2,147,483,647. -/
def gainOk (w : Word32) : Bool := w.toNat ≤ 2147483647

/-- SET_LOOP (R8). -/
def handleSetLoop (channel : Byte) (kp ki kf : Word32) (s : State) : Reply × State :=
  match s.frame.state with
  | .testing | .held | .returning => (.refuse .wrongState 0, s)
  | .undefined | .driveOff | .enabling | .ready | .moving | .faulted =>
    match Channel.ofCode channel.toNat with
    | none => (.refuse .badValue 1, s)
    | some c =>
      match firstFailing [(2, gainOk kp), (3, gainOk ki), (4, gainOk kf)] with
      | some index => (.refuse .badValue index, s)
      | none => (.ok [], s.onFrame (·.setGains c { kp := kp.toNat, ki := ki.toNat, kf := kf.toNat }))

/-! ### Enabling the drive (R9 to R13, R17) -/

/-- The frame becomes READY with the drive-enable timer stopped, and DRIVE_READY is raised (R10). DESIGN CHOICE (log 47): the
servo loop is left as it stands, so where no tracking update was taken since the drive was last enabled, or since the position
was redefined, READY does not hold the present position. -/
def State.driveBecomesReady (s : State) : State :=
  (s.onFrame fun f => { f with state := .ready, driveTimer := none }).raise .driveReady 0

/-- DRIVE_ON (R9); with drive ready already seen the frame passes through ENABLING to READY (R10), with the setpoint and
integrator that stand, also where no tracking update came between a DRIVE_OFF and it (DESIGN CHOICE, log 47). -/
def handleDriveOn (s : State) : Reply × State :=
  if s.frame.state = .driveOff then
    let s1 := s.onFrame fun f => { f with state := .enabling, driveTimer := some 500 }
    (.ok [], if s.inputs.driveSeen then s1.driveBecomesReady else s1)
  else (.refuse .wrongState 0, s)

/-- DRIVE_OFF (R13). -/
def handleDriveOff (s : State) : Reply × State :=
  match s.frame.state with
  | .enabling | .ready | .moving | .returning =>
    (.ok [], s.onFrame fun f => { f with state := .driveOff, driveTimer := none, move := none })
  | .driveOff => (.ok [], s)
  | .undefined | .testing | .held | .faulted => (.refuse .wrongState 0, s)

/-- CLEAR_FAULT (R17). -/
def handleClearFault (s : State) : Reply × State :=
  if s.frame.state = .faulted then
    if s.inputs.estop then (.refuse .causePending 1, s)
    else if s.inputs.upper then (.refuse .causePending 2, s)
    else if s.inputs.lower then (.refuse .causePending 3, s)
    else (.ok [], s.onFrame fun f => { f with state := .driveOff, firstCause := none, causeSet := [] })
  else (.refuse .wrongState 0, s)

/-- DRIVE_READY_SEEN: in ENABLING the frame becomes READY (R10, log 47); the lines stand as drive ready seen (log 5). -/
def execDriveReadySeen (s : State) : Host.Outcome State Fault Refusal :=
  let s1 := s.onInputs fun i => { i with driveReady := true, driveFault := false }
  (if s1.frame.state = .enabling then s1.driveBecomesReady else s1).done

/-- The line that makes drive ready cease to be seen, and the detail of DRIVE_LOST (R12). -/
def ceasedInputs (i : Inputs) : DriveCease → Inputs
  | .readyDropped => { i with driveReady := false }
  | .faultAsserted => { i with driveFault := true }

/-- The detail of DRIVE_LOST (R12). -/
def ceaseDetail : DriveCease → Word32
  | .readyDropped => 1
  | .faultAsserted => 2

/-- DRIVE_READY_CEASES: DRIVE_LOST while the drive's inputs are watched (R12). -/
def execDriveReadyCeases (cause : DriveCease) (s : State) : Host.Outcome State Fault Refusal :=
  let s1 := s.onInputs (ceasedInputs · cause)
  (match s1.frame.state with
    | .ready | .moving | .testing | .held | .returning => s1.raise .driveLost (ceaseDetail cause)
    | .undefined | .driveOff | .enabling | .faulted => s1).done

/-- DRIVE_ENABLE_TIMER_EXPIRY: DRIVE_TIMEOUT in ENABLING (R11). -/
def execDriveEnableTimerExpiry (s : State) : Host.Outcome State Fault Refusal :=
  (if s.frame.state = .enabling then s.raise .driveTimeout 0 else s).done

/-! ### Cabinet inputs (R16) -/

/-- The event of a cabinet input. -/
def cabinetEvent : CabinetInput → EventKind × Word32
  | .estop => (.estop, 0)
  | .upperLimit => (.limitSwitch, 1)
  | .lowerLimit => (.limitSwitch, 2)

/-- CABINET_INPUT_ASSERTED: an input that becomes asserted raises its event (R16). -/
def execCabinetInputAsserted (input : CabinetInput) (s : State) : Host.Outcome State Fault Refusal :=
  (if s.inputs.cabinet input then s
    else (s.onInputs (·.withCabinet true input)).raise (cabinetEvent input).1 (cabinetEvent input).2).done

/-- CABINET_INPUT_RELEASED: the condition is no longer present; no event is raised (R16). -/
def execCabinetInputReleased (input : CabinetInput) (s : State) : Host.Outcome State Fault Refusal :=
  (s.onInputs (·.withCabinet false input)).done

/-! ### Moves (R19 to R23) -/

/-- A move, jog or return ends at once with the setpoint at the position of the latest update (R22). -/
def State.stopCrosshead (s : State) : State := (s.onFrame (·.endMove)).onServo (·.freeze s.servo.latest.p)

/-- A speed limited to vmax with its sign kept (R19, R20). -/
def speedUsed (vmax speed : Int) : Int := limit (-vmax) vmax speed

/-- OK, or CLAMPED where the speed used differs, with the speed used as data. -/
def speedReply (speed used : Int) : Reply :=
  { status := if used = speed then .ok else .clamped, detail := 0, data := bytes32 (signed32 used) }

/-- JOG (R19). -/
def handleJog (speed : Word32) (s : State) : Reply × State :=
  match s.frame.state with
  | .ready | .moving =>
    if speed.toInt = 0 then
      (speedReply 0 0, if s.frame.state = .moving then s.stopCrosshead else s)
    else
      let used := speedUsed s.frame.defn.vmax speed.toInt
      (speedReply speed.toInt used, s.onFrame fun f =>
        { f with state := .moving,
                 move := some { kind := .jog, target := none, rate := used, reached := false, settle := none } })
  | .undefined | .driveOff | .enabling | .testing | .held | .returning | .faulted => (.refuse .wrongState 0, s)

/-- The ramp rate toward a target from a setpoint (R20, R23). -/
def rateToward (sp target speed : Int) : Int := if sp < target then speed else if target < sp then -speed else 0

/-- MOVE_TO (R20). The sign of the ramp is taken from the setpoint that the loop holds, also where that is still the setpoint of a
stage just ended, in its channel's units (DESIGN CHOICE, log 20). -/
def handleMoveTo (target speed : Word32) (s : State) : Reply × State :=
  match s.frame.state with
  | .ready | .moving =>
    if within s.frame.defn.travelMin s.frame.defn.travelMax target.toInt = false then (.refuse .badValue 1, s)
    else if speed.toInt < 1 then (.refuse .badValue 2, s)
    else
      let used := speedUsed s.frame.defn.vmax speed.toInt
      (speedReply speed.toInt used, s.onFrame fun f =>
        { f with state := .moving,
                 move := some { kind := .moveTo, target := some target.toInt,
                                rate := rateToward s.servo.sp target.toInt used, reached := false, settle := none } })
  | .undefined | .driveOff | .enabling | .testing | .held | .returning | .faulted => (.refuse .wrongState 0, s)

/-- STOP_MOVE (R22). -/
def handleStopMove (s : State) : Reply × State :=
  match s.frame.state with
  | .moving | .returning => (.ok [], s.stopCrosshead)
  | .ready => (.ok [], s)
  | .undefined | .driveOff | .enabling | .testing | .held | .faulted => (.refuse .wrongState 0, s)

/-- SET_POSITION (R7). -/
def handleSetPosition (value : Word32) (s : State) : Reply × State :=
  let change := value.toInt - s.servo.latest.p
  match s.frame.state with
  | .driveOff => (.ok [], s.onFrame fun f => { f with offset := f.offset + change })
  | .ready =>
    (.ok [], (s.onFrame fun f => { f with offset := f.offset + change }).onServo fun v => { v with sp := v.sp + change })
  | .undefined | .enabling | .moving | .testing | .held | .returning | .faulted => (.refuse .wrongState 0, s)

/-- SETTLE_TIMER_EXPIRY: MOVE_INCOMPLETE, and the move ends (R21). -/
def execSettleTimerExpiry (s : State) : Host.Outcome State Fault Refusal :=
  (match s.frame.move with
    | some m =>
      match m.settle, m.target with
      | some _, some goal => (s.onFrame (·.endMove)).raise .moveIncomplete (signed32 (s.servo.latest.p - goal))
      | _, _ => s
    | none => s).done

/-! ### Override, tare and filter -/

/-- SET_OVERRIDE (R31); its reply's value takes two bytes, as the request's (DESIGN CHOICE, log 40). -/
def handleSetOverride (percent : BitVec 16) (s : State) : Reply × State :=
  if s.inTest then
    let used := limit 10 200 percent.toNat
    ({ status := if used = percent.toNat then .ok else .clamped, detail := 0, data := bytes16 (BitVec.ofInt 16 used) },
      s.onServo fun v => { v with override := used })
  else (.refuse .wrongState 0, s)

/-- TARE (R55, R56). -/
def handleTare (s : State) : Reply × State :=
  if s.inTest then (.refuse .wrongState 0, s)
  else (.ok (bytes32 (signed32 s.force.fLin)), s.onForce fun c => c.retare c.fLin)

/-- SET_FILTER (R59); the value is checked first (log 13). -/
def handleSetFilter (n : Byte) (s : State) : Reply × State :=
  if n.toNat ∉ [1, 2, 4, 8, 16] then (.refuse .badValue 1, s)
  else if s.inTest then (.refuse .wrongState 0, s)
  else (.ok [], s.onForce fun c => { c with filterLength := n.toNat, window := [] })

/-- ZERO_EXT (R89). -/
def handleZeroExt (gauge : Word32) (s : State) : Reply × State :=
  if s.inTest then (.refuse .wrongState 1, s)
  else if s.strain.state ≠ .fitted ∧ s.strain.state ≠ .zeroed then (.refuse .wrongState 2, s)
  else if 20 ≤ s.strain.starvation then (.refuse .wrongState 3, s)
  else if within 5000 200000 gauge.toNat = false then (.refuse .badValue 1, s)
  else (.ok (bytes32 (signed32 s.strain.heldMean)),
    s.onStrain fun x => { x with state := .zeroed, zero := some x.heldMean, gauge := some gauge.toNat })

end Sys2Proof.Machine
end

