-- ==== Sys2Proof/Machine/Sequencer.lean ====
section
/-! DEFINITION. Program slots and the stage sequencer (spec/06): LOAD_PROGRAM, the running copy, test points and notices. -/

namespace Sys2Proof.Machine

/-! ### Program checks (R108 to R110) -/

/-- The default marker (R108). -/
def defaultMarker : Word32 := 0xFFFFFFFF

/-- A field with a default passes with the default marker or within its range. -/
def defaulted (lo hi : Nat) (w : Word32) : Bool := w = defaultMarker || within lo hi w.toNat

/-- The value of a field with a default, the default put in for the marker. -/
def valueOr (default : Nat) (w : Word32) : Nat := if w = defaultMarker then default else w.toNat

/-- The code is one of the first n. -/
def codeBelow (n : Nat) (b : Byte) : Bool := b.toNat < n

/-- The program fields' checks in the order of their indices (R109). -/
def fieldChecks (p : RawProgram) : List (Nat × Bool) :=
  [(1, within 1 12 p.stageCount.toNat), (2, codeBelow 2 p.extRequired), (3, codeBelow 2 p.extLostAction),
   (4, within 0 2000000 p.removalStrain.toNat), (5, codeBelow 2 p.removeAtNecking),
   (6, decide (p.removeBefore.toNat = 0) || decide (p.removeBefore.toNat < p.stageCount.toNat)),
   (7, defaulted 500 10000 p.removalTime), (8, within 0 5000000 p.fitLower.toNat),
   (9, decide (p.fitLower.toNat < p.fitUpper.toNat) && decide (p.fitUpper.toNat ≤ 5000000)),
   (10, defaulted 1000 100000 p.rpOffset), (11, defaulted 1 50 p.yieldDrop), (12, defaulted 0 100000 p.guardStrain),
   (13, defaulted 1 50 p.margin), (14, defaulted 1 100 p.neckingThreshold), (15, defaulted 10 90 p.breakPct),
   (16, defaulted 1 50 p.suddenPct), (17, defaulted 100 2000000 p.breakMin), (18, within 1 2200000 p.forceLimit.toNat),
   (19, codeBelow 2 p.autoTare), (20, codeBelow 2 p.returnEnabled), (21, within 1 30000 p.returnSpeed.toNat),
   (22, codeBelow 2 p.holdMode), (23, codeBelow 2 p.timersInHold), (24, codeBelow 2 p.streamInHold),
   (25, codeBelow 3 p.markerMode)]

/-- The range of a stage's rate in its channel (section 6.1). -/
def rateLimit : Channel → Int
  | .position => 30000
  | .force => 100000
  | .strain => 1000000

/-- An end condition's value is as its kind requires (section 6.1). -/
def endValueOk (kind : EndKind) (w : Word32) : Bool :=
  match kind with
  | .forceAbove | .forceBelow => within (-5000000) 5000000 w.toInt
  | .stageTime => within 1 86400000 w.toNat
  | .target | .strainAbove | .displacementAbove | .yieldFound | .fmaxPassed | .never => true

/-- The end kind that four bits name. -/
def endKindOf (k : BitVec 4) : Option EndKind := EndKind.ofCode k.toNat

/-- The checks of stage n in field order, with their indices 40 + 8 × n + f (R110). A field behind a code that names no
value is not reached, because the code fails first. -/
def rawStageChecks (g : RawStage) (n : Nat) : List (Nat × Bool) :=
  let base := 40 + 8 * n
  let limit := ((Channel.ofCode g.channel.toNat).map rateLimit).getD 0
  let dwell := decide (g.rate.toInt = 0)
  let target1 := decide (endKindOf g.kind1 = some .target)
  let target2 := decide (endKindOf g.kind2 = some .target)
  [(base + 1, (Channel.ofCode g.channel.toNat).isSome), (base + 2, within (-limit) limit g.rate.toInt),
   (base + 3, (endKindOf g.kind1).isSome && !(target1 && dwell)),
   (base + 4, (endKindOf g.kind1).all (endValueOk · g.value1)),
   (base + 5, (endKindOf g.kind2).isSome && !(target2 && dwell) && !(target1 && target2)),
   (base + 6, (endKindOf g.kind2).all (endValueOk · g.value2))]

/-- The checks of the stages from stage n on. -/
def stageChecks : Nat → List RawStage → List (Nat × Bool)
  | _, [] => []
  | n, g :: rest => rawStageChecks g n ++ stageChecks (n + 1) rest

/-- Every check of a program record, in the order of the check indices (R108). -/
def programChecks (p : RawProgram) : List (Nat × Bool) := fieldChecks p ++ stageChecks 0 p.stages

/-! ### The stored record (R109) -/

/-- An optional field: absent when sent as 0. -/
def optional (n : Nat) : Option Nat := if n = 0 then none else some n

/-- A stage as stored. The codes have passed their checks; a code that names no value cannot be stored. -/
def storedStage (g : RawStage) : Stage :=
  { channel := (Channel.ofCode g.channel.toNat).getD .position, rate := g.rate.toInt,
    end1 := { kind := (endKindOf g.kind1).getD .never, value := g.value1.toInt },
    end2 := { kind := (endKindOf g.kind2).getD .never, value := g.value2.toInt } }

/-- The record as the slot holds it, with defaults put in (R109). -/
def storedProgram (p : RawProgram) : Program :=
  { extRequired := p.extRequired = 1, extLostAction := (ExtLostAction.ofCode p.extLostAction.toNat).getD .continue,
    removalStrain := (optional p.removalStrain.toNat).map Int.ofNat, removeAtNecking := p.removeAtNecking = 1,
    removeBefore := optional p.removeBefore.toNat, removalTime := valueOr 3000 p.removalTime,
    fitLower := p.fitLower.toNat, fitUpper := p.fitUpper.toNat, rpOffset := valueOr 20000 p.rpOffset,
    yieldDrop := valueOr 5 p.yieldDrop, guardStrain := valueOr 5000 p.guardStrain, margin := valueOr 10 p.margin,
    neckingThreshold := valueOr 20 p.neckingThreshold, breakPct := valueOr 40 p.breakPct,
    suddenPct := valueOr 10 p.suddenPct, breakMin := valueOr 1000 p.breakMin, forceLimit := p.forceLimit.toNat,
    autoTare := p.autoTare = 1, returnEnabled := p.returnEnabled = 1, returnSpeed := p.returnSpeed.toNat,
    holdMode := (HoldMode.ofCode p.holdMode.toNat).getD .holdChannel,
    timersInHold := (InHold.ofCode p.timersInHold.toNat).getD .run,
    streamInHold := (InHold.ofCode p.streamInHold.toNat).getD .run,
    markerMode := (MarkerMode.ofCode p.markerMode.toNat).getD .off, stages := p.stages.map storedStage }

/-- The slot holds the program of the test in progress (R108). -/
def State.slotInUse (s : State) (slot : Nat) : Bool := s.inTest && s.seq.running.any fun r => r.slot = slot

/-- The slots with one replaced. -/
def Sequencer.putSlot (q : Sequencer) (slot : Nat) (p : Program) : Sequencer :=
  { q with slots := q.slots.setIfInBounds slot (some p) }

/-- LOAD_PROGRAM (R108). -/
def handleLoadProgram (slot : Byte) (program : Option RawProgram) (s : State) : Reply × State :=
  if 4 ≤ slot.toNat then (.refuse .badValue 0, s)
  else if s.slotInUse slot.toNat then (.refuse .busy 0, s)
  else match program with
    | none => (.refuse .badLength 0, s)
    | some p =>
      match firstFailing (programChecks p) with
      | some index => (.refuse .badValue index, s)
      | none => (.ok [], s.onSeq (·.putSlot slot.toNat (storedProgram p)))

/-! ### The running copy (R111, R112) -/

/-- A rate limited to vmax, keeping its sign (R112). -/
def clampRate (vmax rate : Int) : Int := limit (-vmax) vmax rate

/-- The value of an end condition in the copy (R111). -/
def convertedValue (c : Channel) (e : EndCondition) (s0 startPos : Int) : Int :=
  match e.kind, c with
  | .target, .force | .forceAbove, _ | .forceBelow, _ => forceOfStress e.value s0
  | .target, .position => e.value + startPos
  | .target, .strain | .never, _ | .strainAbove, _ | .displacementAbove, _ | .stageTime, _ | .yieldFound, _
  | .fmaxPassed, _ => e.value

/-- A stage in the copy (R111, R112). -/
def Stage.convert (g : Stage) (s0 startPos vmax : Int) : Stage :=
  { g with
    rate := match g.channel with
      | .force => forceOfStress g.rate s0
      | .position => clampRate vmax g.rate
      | .strain => g.rate
    end1 := { g.end1 with value := convertedValue g.channel g.end1 s0 startPos }
    end2 := { g.end2 with value := convertedValue g.channel g.end2 s0 startPos } }

/-- The running program copy (R111). -/
def Program.convert (p : Program) (s0 startPos vmax : Int) : Program :=
  { p with stages := p.stages.map (·.convert s0 startPos vmax), returnSpeed := min p.returnSpeed vmax }

/-- The details of RATE_CLAMPED in order: the stages from stage n on, and then the return speed (R112). -/
def clampedStages (vmax : Int) : Nat → List Stage → List Nat
  | _, [] => []
  | n, g :: rest =>
    if g.channel = .position ∧ vmax < g.rate.natAbs then n :: clampedStages vmax (n + 1) rest
    else clampedStages vmax (n + 1) rest

/-- Every clamped value of a program (R112). -/
def Program.clamped (p : Program) (vmax : Int) : List Nat :=
  clampedStages vmax 0 p.stages ++ (if vmax < p.returnSpeed then [12] else [])

/-! ### End conditions (R116) -/

/-- The feedback of a channel in a test point (R116). -/
def Point.feedback (x : Point) (c : Channel) : Int := Sys2Proof.Machine.feedback x.p x.f x.eps c

/-- An end condition of a stage is met by a test point (R116). A converted rate of 0 gives TARGET no direction (log 41). -/
def Sequencer.meets (q : Sequencer) (g : Stage) (e : EndCondition) (x : Point) : Bool :=
  match e.kind with
  | .never => false
  | .target => decide ((0 < g.rate ∧ e.value ≤ x.feedback g.channel) ∨ (g.rate < 0 ∧ x.feedback g.channel ≤ e.value))
  | .forceAbove => decide (e.value ≤ x.f)
  | .forceBelow => decide (x.f ≤ e.value)
  | .strainAbove => decide (e.value ≤ x.eps)
  | .displacementAbove => decide (e.value ≤ x.d)
  | .stageTime => q.timeMark
  | .yieldFound => q.yieldMark
  | .fmaxPassed => q.fmaxMark

/-- The entry cause that the stage in force's end conditions give at a test point, if one is met (R116). -/
def State.endCause (s : State) (x : Point) : Option Nat :=
  s.stageInForce.bind fun g =>
    if s.seq.meets g g.end1 x then some 1 else if s.seq.meets g g.end2 x then some 2 else none

/-- The sequencer takes a test point: the break flag, or the end conditions in TESTING (R115, R116, log 42). -/
def State.sequencerPoint (s : State) (x : Point) : State :=
  if s.inTest then
    if s.force.breakFlag then (s.onForce fun c => { c with breakFlag := false }).endTest .completedBreak 0
    else if s.frame.state = .testing ∧ x.held = false then
      match s.endCause x with
      | some cause => s.stageEnd x.time cause
      | none => s
    else s
  else s

/-! ### Arrivals at the sequencer -/

/-- SEQUENCER_TEST_POINT: the sequencer takes its next test point (R115, R116). -/
def execSequencerTestPoint (s : State) : Host.Outcome State Fault Refusal :=
  (match s.points.sequencer with
    | [] => s
    | x :: rest => (s.onPoints fun d => { d with sequencer := rest }).sequencerPoint x).done

/-- STAGE_TIMER_EXPIRY: the timer stops and the time-reached mark is set (R114). -/
def execStageTimerExpiry (s : State) : Host.Outcome State Fault Refusal :=
  (match s.seq.timer with
    | .running _ => s.onSeq fun q => { q with timer := .stopped, timeMark := true }
    | .stopped | .paused _ => s).done

/-- YIELD_NOTICE: the yield mark is set (R117); outside a test there is none to mark (log 22). -/
def execYieldNotice (s : State) : Host.Outcome State Fault Refusal :=
  let s1 := s.taken .yieldFound
  (if s1.inTest then s1.onSeq fun q => { q with yieldMark := true } else s1).done

/-- FMAX_PASSED_NOTICE: the Fmax-passed mark is set (R117); outside a test there is none to mark (log 22). -/
def execFmaxPassedNotice (s : State) : Host.Outcome State Fault Refusal :=
  let s1 := s.taken .fmaxPassed
  (if s1.inTest then s1.onSeq fun q => { q with fmaxMark := true } else s1).done

/-- The sequencer takes the NEXT_STAGE action of a test point: a stage end with entry cause 3 (R131); outside a test there is no
stage to end. -/
def State.takeNextStage (s : State) (time : Word32) : State :=
  let s1 := s.taken (.nextStage time)
  if s1.inTest then s1.stageEnd time 3 else s1

/-- The test points of the NEXT_STAGE actions on their way, oldest first. -/
def nextStageTimes (mail : List Notice) : List Word32 :=
  mail.filterMap fun n => match n with
    | .nextStage t => some t
    | _ => none

/-- The sequencer takes every NEXT_STAGE action on its way, in the order they were sent (R132, log 6). -/
def State.settleStages (s : State) : State := (nextStageTimes s.mail).foldl State.takeNextStage s

/-- NEXT_STAGE: the sequencer takes the oldest action on its way, or one of the latest point (R131, log 6). -/
def execNextStage (s : State) : Host.Outcome State Fault Refusal :=
  (s.takeNextStage ((nextStageTimes s.mail).head?.getD s.servo.latest.time)).done

end Sys2Proof.Machine
end

