-- ==== Sys2Proof/Machine/Watch.lean ====
section
/-! DEFINITION. The watch unit and hold control (spec/07): SET_WATCH, the comparison of a test point, actions, hold requests. -/

namespace Sys2Proof.Machine

/-! ### SET_WATCH (R126) -/

/-- The field checks in the order of the request, with the field numbers of R126. -/
def watchChecks (w : RawWatch) : List (Nat × Bool) :=
  [(1, (yesNoOfCode w.enabled.toNat).isSome), (2, (WatchQuantity.ofCode w.quantity.toNat).isSome),
   (4, (WatchDirection.ofCode w.direction.toNat).isSome), (5, (WatchAction.ofCode w.action.toNat).isSome),
   (6, (WatchRearm.ofCode w.rearm.toNat).isSome),
   (7, decide (WatchRearm.ofCode w.rearm.toNat ≠ some .rearm) || within 1 2147483647 w.hysteresis.toNat)]

/-- The entry as stored: ARMED, with no previous value; the hysteresis of a ONCE entry is 0 (R126). -/
def storedWatch (w : RawWatch) : Watch :=
  let again := (WatchRearm.ofCode w.rearm.toNat).getD .once
  { enabled := w.enabled = 1, quantity := (WatchQuantity.ofCode w.quantity.toNat).getD .force, level := w.level.toInt,
    direction := (WatchDirection.ofCode w.direction.toNat).getD .rising,
    action := (WatchAction.ofCode w.action.toNat).getD .notify, rearm := again,
    hysteresis := if again = .rearm then w.hysteresis.toNat else 0, state := .armed, previous := none }

/-- An entry that could change the course of a test at its next crossing (R126). -/
def Watch.barred (w : Watch) : Bool := w.enabled && decide (w.state = .armed) && decide (w.action ≠ .notify)

/-- SET_WATCH (R126). -/
def handleSetWatch (index : Byte) (w : RawWatch) (s : State) : Reply × State :=
  if h : index.toNat < 5 then
    if s.inTest && s.watches[index.toNat].barred then (.refuse .busy 0, s)
    else match firstFailing (watchChecks w) with
      | some field => (.refuse .badValue field, s)
      | none => (.ok [], s.onWatches (·.set index.toNat (storedWatch w)))
  else (.refuse .badValue 0, s)

/-! ### Comparing a test point (R128, R129) -/

/-- The value of a watched quantity in a test point (R128). -/
def Point.watched (x : Point) : WatchQuantity → Int
  | .force => x.f
  | .strain => x.eps
  | .displacement => x.d
  | .position => x.p
  | .testTime => x.testTime.toNat

/-- The value has crossed the level in the entry's direction (R128). -/
def Watch.crosses (w : Watch) (before value : Int) : Bool :=
  match w.direction with
  | .rising => before < w.level ∧ w.level ≤ value
  | .falling => w.level < before ∧ value ≤ w.level

/-- The value has come back past the level by the hysteresis (R129). -/
def Watch.rearms (w : Watch) (value : Int) : Bool :=
  match w.direction with
  | .rising => value ≤ w.level - w.hysteresis
  | .falling => w.level + w.hysteresis ≤ value

/-- The entry fires at a test point (R128). -/
def Watch.fires (w : Watch) (x : Point) : Bool :=
  w.enabled && decide (w.state = .armed) && w.previous.any fun before => w.crosses before (x.watched w.quantity)

/-- The entry after a test point has been examined (R128, R129). -/
def Watch.examined (w : Watch) (x : Point) : Watch :=
  if w.enabled then
    let value := x.watched w.quantity
    { w with
      state := if w.fires x then .fired
        else if w.state = .fired ∧ w.rearm = .rearm ∧ w.rearms value = true then .armed else w.state
      previous := some value }
  else w

/-! ### What a firing does (R130 to R132) -/

/-- The indices of the entries that fire at a test point, with their actions, in index order. -/
def firings (watches : Vector Watch 5) (x : Point) : List (Nat × WatchAction) :=
  [0, 1, 2, 3, 4].filterMap fun i =>
    watches[i]?.bind fun w => if w.fires x then some (i, w.action) else none

/-- WATCH_FIRED once for each firing entry, in index order (R132). -/
def State.raiseFirings (s : State) (fired : List (Nat × WatchAction)) : State :=
  fired.foldl (fun t e => t.raise .watchFired (BitVec.ofNat 32 e.1)) s

/-- An action where no END_TEST fires at the same test point (R130, R131). A NEXT_STAGE and a REMOVE_EXT are sent and act when
their own arrivals are taken; a HOLD acts within the watch unit's step, after the NEXT_STAGE actions that are on their way, so
that the actions of a test point are taken in index order (R132, log 6). -/
def State.watchAction (s : State) (time : Word32) : WatchAction → State
  | .notify | .endTest => s
  | .hold => s.settleStages.setHold .watch
  | .nextStage => s.send (.nextStage time)
  | .removeExt => s.send .watchRemoval

/-- The actions taken before the end where an END_TEST fires at the same test point (R132, log 21). -/
def State.watchActionBeforeEnd (s : State) : WatchAction → State
  | .removeExt => s.removalTrigger
  | .notify | .hold | .nextStage | .endTest => s

/-- The actions of one test point (R132). -/
def State.watchActions (s : State) (time : Word32) (fired : List (Nat × WatchAction)) : State :=
  if fired.any fun e => e.2 = .endTest then
    (fired.foldl (fun t e => t.watchActionBeforeEnd e.2) s).endTest .endedByWatch 0
  else fired.foldl (fun t e => t.watchAction time e.2) s

/-- The watch unit takes a test point (R128 to R132). -/
def State.watchPoint (s : State) (x : Point) : State :=
  if s.inTest then
    let fired := firings s.watches x
    let s1 := s.onWatches (·.map (·.examined x))
    (s1.raiseFirings fired).watchActions x.time fired
  else s

/-- WATCH_TEST_POINT: the watch unit takes its next test point (R128). -/
def execWatchTestPoint (s : State) : Host.Outcome State Fault Refusal :=
  (match s.points.watch with
    | [] => s
    | x :: rest => (s.onPoints fun d => { d with watch := rest }).watchPoint x).done

/-- At a test start every enabled entry is ARMED with its previous value absent (R127). -/
def Watch.arm (w : Watch) : Watch := if w.enabled then { w with state := .armed, previous := none } else w

/-- RESET's part: disabled, ARMED, no previous value (R125). -/
def Watch.disable (w : Watch) : Watch := { w with enabled := false, state := .armed, previous := none }

/-! ### Hold requests (R134 to R136) -/

/-- The hold-cause set as a byte. -/
def State.holdByte (s : State) : Byte := BitVec.ofNat 8 s.hold.causes.code

/-- HOLD_TEST (R134). -/
def handleHoldTest (s : State) : Reply × State :=
  if s.inTest then
    let s1 := s.setHold .operator
    (.ok [s1.holdByte], s1)
  else (.refuse .wrongState 0, s)

/-- CLEAR_HOLD (R135); the value is checked first (log 13). -/
def handleClearHold (causes : Byte) (s : State) : Reply × State :=
  if causes.toNat = 0 ∨ 15 < causes.toNat then (.refuse .badValue 1, s)
  else if s.inTest then
    let s1 := s.onHold fun h => { h with causes := h.causes.remove causes }
    (.ok [s1.holdByte], s1)
  else (.refuse .wrongState 0, s)

/-- RESUME_TEST (R136). -/
def handleResumeTest (s : State) : Reply × State :=
  if s.frame.state = .held then
    if s.hold.causes = HoldCauses.empty then
      let s1 := s.onFrame fun f => { f with state := .testing }
      let s2 := if s.holdsPosition then s1.onServo fun v => { v with entry := true } else s1
      (.ok [], s2.onSeq fun q => { q with timer := q.timer.resume })
    else (.refuse .causePending s.hold.causes.code, s)
  else (.refuse .wrongState 0, s)

end Sys2Proof.Machine
end

