-- ==== Sys2Proof/Machine/Evaluation.lean ====
section
/-! DEFINITION. The evaluation unit (spec/09): the seven steps at a test point and the start of a test. -/

namespace Sys2Proof.Machine

/-! ### Energy and maximum force (R160, R161) -/

/-- The energy sum rises by the force times the displacement since the point before (R160). -/
def Evaluation.addEnergy (e : Evaluation) (x : Point) : Evaluation :=
  { e with energy := sat64 (e.energy + form64 (x.f * (x.d - e.prevD))), prevD := x.d }

/-- Fmax and Agt (R161). -/
def Evaluation.raiseMax (e : Evaluation) (x : Point) : Evaluation :=
  if e.fmax.all fun m => decide (m < x.f) then { e with fmax := some x.f, agt := some x.eps } else e

/-! ### The elastic fit (R162 to R165) -/

/-- The five sums with a point added. -/
def Evaluation.summed (e : Evaluation) (x : Point) : Evaluation :=
  { e with n := e.n + 1, sumE := e.sumE + x.eps, sumF := e.sumF + x.f, sumEE := e.sumEE + form64 (x.eps * x.eps),
           sumEF := e.sumEF + form64 (x.eps * x.f) }

/-- Every fit sum lies in the signed 64-bit range. -/
def Evaluation.sumsFit (e : Evaluation) : Bool :=
  fits 64 e.n && fits 64 e.sumE && fits 64 e.sumF && fits 64 e.sumEE && fits 64 e.sumEF

/-- A point joins the sums, or sets the overflow mark and leaves them (R162, R163). -/
def Evaluation.addPoint (e : Evaluation) (x : Point) : Evaluation :=
  if e.overflow then e else if (e.summed x).sumsFit then e.summed x else { e with overflow := true }

/-- The fitted line and modulus (R165). -/
structure Line where
  slope : Int
  intercept : Int
  modulus : Int
deriving DecidableEq, Repr

/-- num of R165. -/
def Evaluation.num (e : Evaluation) : Int := form128 (e.n * e.sumEF - e.sumE * e.sumF)

/-- den of R165. -/
def Evaluation.den (e : Evaluation) : Int := form128 (e.n * e.sumEE - e.sumE * e.sumE)

/-- The slope m_fix (R165). -/
def Evaluation.slopeOf (e : Evaluation) : Int := roundDiv (form128 (65536 * e.num)) e.den

/-- The line of the sums (R165). -/
def Evaluation.line (e : Evaluation) (s0 : Int) : Line :=
  { slope := e.slopeOf, intercept := roundDiv (form128 (e.sumF * e.den - e.num * e.sumE)) (form128 (e.n * e.den)),
    modulus := roundDiv (form128 (e.num * 10000000)) (form128 (e.den * s0)) }

/-- The invalidity code of the fit, none when every check passes (R164). -/
def Evaluation.invalidity (e : Evaluation) : Option Nat :=
  if e.overflow then some 1 else if e.n < 20 then some 2 else if e.den ≤ 0 then some 3
  else if e.slopeOf ≤ 0 then some 4 else none

/-- The fit closes with its verdict (R164). -/
def Evaluation.closeFit (e : Evaluation) (s0 : Int) : Evaluation :=
  match e.invalidity with
  | some _ => { e with fit := .invalid }
  | none =>
    let l := e.line s0
    { e with fit := .valid, slope := some l.slope, intercept := some l.intercept, modulus := some l.modulus }

/-- FIT_CLOSED with the number of points, and FIT_INVALID with its code (R164). -/
def State.raiseFit (s : State) (n : Int) (invalidity : Option Nat) : State :=
  let s1 := s.raise .fitClosed (unsigned32 n)
  match invalidity with
  | some code => s1.raise .fitInvalid (BitVec.ofNat 32 code)
  | none => s1

/-- Step 3: the elastic fit, in ELASTIC with the fit OPEN, at a point made in TESTING (R162, R164). -/
def State.fitStep (s : State) (x : Point) : State :=
  if s.eval.phase = .elastic ∧ s.eval.fit = .opened ∧ x.held = false then
    if s.eval.fHi < x.f then
      (s.onEval (·.closeFit s.s0)).raiseFit s.eval.n s.eval.invalidity
    else if s.eval.fLo ≤ x.f then s.onEval (·.addPoint x)
    else s
  else s

/-! ### Upper yield (R166, R167) -/

/-- The candidate peak after a point in ELASTIC (R166). -/
def Evaluation.track (e : Evaluation) (x : Point) : Evaluation :=
  match e.tracking with
  | some c => if c.peak < x.f then { e with tracking := some { peak := x.f, eps := x.eps } } else e
  | none =>
    if e.fit ≠ .opened ∨ e.fHi < x.f then { e with tracking := some { peak := x.f, eps := x.eps } } else e

/-- The capture of the upper yield from the candidate (R167). -/
def Evaluation.capture (e : Evaluation) (c : Candidate) (guardStrain : Int) : Evaluation :=
  { e with reH := some c.peak, epsReH := some c.eps, guardEnd := some (c.eps + guardStrain), plateau := .running,
           path := .discontinuous, phase := .discontinuous }

/-- YIELD_FOUND with its detail, and the yield notice (R167, R171). -/
def State.foundYield (s : State) (detail : Word32) : State := (s.raise .yieldFound detail).send .yieldFound

/-- Step 4: upper yield, in ELASTIC (R166, R167). -/
def State.upperYield (s : State) (p : Program) (x : Point) : State :=
  if s.eval.phase = .elastic then
    let s1 := s.onEval (·.track x)
    match s1.eval.tracking with
    | some c =>
      if form64 (x.f * 1000) ≤ form64 (c.peak * (1000 - p.yieldDrop)) then
        (s1.onEval (·.capture c p.guardStrain)).foundYield 1
      else s1
    | none => s1
  else s

/-! ### Offset yield (R170, R171) -/

/-- The offset line at a strain (R170). -/
def offsetLine (slope intercept eps offset : Int) : Int := roundDiv (form64 (slope * (eps - offset))) 65536 + intercept

/-- Step 5: offset yield (R170, R171). -/
def State.offsetYield (s : State) (p : Program) (x : Point) : State :=
  match s.eval.fit, s.eval.rp, s.eval.slope, s.eval.intercept with
  | .valid, none, some m, some b =>
    if x.f ≤ offsetLine m b x.eps p.rpOffset then
      let s1 := s.onEval fun e => { e with rp := some x.f }
      if s.eval.phase = .elastic then
        (s1.onEval fun e => { e with path := .continuous, phase := .hardening }).foundYield 2
      else s1
    else s
  | _, _, _, _ => s

/-! ### The yield plateau (R168, R169) -/

/-- The lower-yield tracker at a point of the phase DISCONTINUOUS, or the plateau cut short at the guard (R168). -/
def Evaluation.lowerYield (e : Evaluation) (x : Point) : Evaluation :=
  if e.guardEnd.any fun g => decide (g ≤ x.eps) then
    match e.reL with
    | some r => if x.f < r then { e with reL := some x.f } else e
    | none =>
      if e.reH.any fun h => decide (x.f < h) then { e with reL := some x.f }
      else { e with plateau := .cutShort, phase := .hardening }
  else e

/-- The end of the plateau (R169). -/
def Evaluation.endPlateau (e : Evaluation) (margin : Int) (x : Point) : Evaluation :=
  match e.phase, e.reL, e.epsReH with
  | .discontinuous, some r, some start =>
    if form64 (r * (1000 + margin)) ≤ form64 (x.f * 1000) then
      { e with ae := some (x.eps - start), plateau := .ended, phase := .hardening }
    else e
  | _, _, _ => e

/-- The point lowers the tracker that the points before it have set (R168). -/
def Evaluation.lowers (e : Evaluation) (x : Point) : Bool :=
  (e.guardEnd.any fun g => decide (g ≤ x.eps)) && e.reL.any fun r => decide (x.f < r)

/-- The plateau at a point of the phase DISCONTINUOUS: the lower yield, and then the end of the plateau, which a point that
lowers the tracker cannot make (R168, R169, log 33). -/
def Evaluation.plateauAt (e : Evaluation) (margin : Int) (x : Point) : Evaluation :=
  if e.lowers x then e.lowerYield x else (e.lowerYield x).endPlateau margin x

/-- Step 6: the plateau, in DISCONTINUOUS (R168, R169). -/
def State.plateauStep (s : State) (p : Program) (x : Point) : State :=
  if s.eval.phase = .discontinuous then s.onEval (·.plateauAt p.margin x) else s

/-! ### Necking (R172) -/

/-- The unit in NECKING; a plateau that had not ended is cut short (R172). -/
def Evaluation.neck (e : Evaluation) : Evaluation :=
  { e with phase := .necking, plateau := if e.phase = .discontinuous then .cutShort else e.plateau }

/-- Step 7: necking, in DISCONTINUOUS and HARDENING (R172). -/
def State.neckingStep (s : State) (p : Program) (x : Point) : State :=
  match s.eval.phase, s.eval.fmax with
  | .discontinuous, some m | .hardening, some m =>
    if form64 (x.f * 1000) ≤ form64 (m * (1000 - p.neckingThreshold)) then
      (((s.onEval (·.neck)).raise .fmaxPassed (signed32 (newtons m))).send .fmaxPassed).send .necking
    else s
  | _, _ => s

/-! ### A test point and a test start -/

/-- The seven steps of R159; with a break capture present only the first two are made. -/
def State.evaluationPoint (s : State) (x : Point) : State :=
  match s.inTest, s.program with
  | true, some p =>
    let s1 := s.onEval fun e => (e.addEnergy x).raiseMax x
    if s.force.capture.isSome then s1
    else ((((s1.fitStep x).upperYield p x).offsetYield p x).plateauStep p x).neckingStep p x
  | _, _ => s

/-- EVALUATION_TEST_POINT: the evaluation unit takes its next test point (R159). -/
def execEvaluationTestPoint (s : State) : Host.Outcome State Fault Refusal :=
  (match s.points.evaluation with
    | [] => s
    | x :: rest => (s.onPoints fun d => { d with evaluation := rest }).evaluationPoint x).done

/-- The unit at a test start (R158). -/
def Evaluation.start (p : Program) (s0 : Int) : Evaluation :=
  { Evaluation.initial with phase := .elastic, fLo := forceOfStress p.fitLower s0, fHi := forceOfStress p.fitUpper s0 }

end Sys2Proof.Machine
end

