-- ==== Sys2Proof/Machine/Records.lean ====
section
/-! DEFINITION. Test records (spec/08): the specimen queue, the start and abort of a test, the result list. -/

namespace Sys2Proof.Machine

/-! ### Specimen records (R140) -/

/-- The characters of an ID as sent; unused places are ignored (log 24). -/
def idChars (id : RawId) : List Byte := id.places.take id.length.toNat

/-- A character code an ID may hold. -/
def printable (b : Byte) : Bool := 0x20 ≤ b.toNat ∧ b.toNat ≤ 0x7E

/-- An ID is 1 to 16 characters of code 0x20 to 0x7E (R140). -/
def idOk (id : RawId) : Bool :=
  within 1 16 id.length.toNat && decide ((idChars id).length = id.length.toNat) && (idChars id).all printable

/-- The largest first dimension of a shape (R140). -/
def firstLimit : Shape → Int
  | .round => 150000
  | .rect => 1000000
  | .given => 10000000

/-- The cross-section from the shape and dimensions, in 0.001 mm² (R140). -/
def crossSection (shape : Shape) (dim1 dim2 : Nat) : Int :=
  match shape with
  | .round => roundDiv (form64 ((dim1 * dim1 : Nat) * 314159265)) 400000000000
  | .rect => roundDiv (form64 (dim1 * dim2 : Nat)) 1000
  | .given => dim1

/-- The checks of fields 1 to 6 of a specimen record (R140). -/
def specimenChecks (r : RawSpecimen) : List (Nat × Bool) :=
  let shape := Shape.ofCode r.shape.toNat
  [(1, idOk r.id), (2, codeBelow 4 r.slot), (3, shape.isSome),
   (4, shape.all fun h => within 1 (firstLimit h) r.dim1.toNat),
   (5, decide (shape ≠ some .rect) || within 1 1000000 r.dim2.toNat), (6, within 10000 1000000 r.parallel.toNat)]

/-- The shape of a record; its code has passed its check. -/
def shapeOf (r : RawSpecimen) : Shape := (Shape.ofCode r.shape.toNat).getD .given

/-- The specimen record as stored, with its cross-section (R140). -/
def storedSpecimen (r : RawSpecimen) : Specimen :=
  { id := idChars r.id, slot := r.slot.toNat, shape := shapeOf r, dim1 := r.dim1.toNat, dim2 := r.dim2.toNat,
    parallel := r.parallel.toNat, s0 := (crossSection (shapeOf r) r.dim1.toNat r.dim2.toNat).toNat }

/-- Every check of a specimen record: the cross-section is computed only when fields 1 to 6 have passed (R141). -/
def specimenFailure (r : RawSpecimen) : Option Nat :=
  match firstFailing (specimenChecks r) with
  | some index => some index
  | none => if within 1 10000000 (crossSection (shapeOf r) r.dim1.toNat r.dim2.toNat) then none else some 7

/-- The ID is in the specimen queue, the test in progress or the result list (R142). -/
def Records.holdsId (r : Records) (id : List Byte) : Bool :=
  r.queue.any (fun x => x.id = id) || r.test.any (fun t => t.specimen.id = id) || r.results.any fun x => x.id = id

/-- ADD_SPECIMEN (R141). -/
def handleAddSpecimen (r : RawSpecimen) (s : State) : Reply × State :=
  match specimenFailure r with
  | some index => (.refuse .badValue index, s)
  | none =>
    let x := storedSpecimen r
    if s.recs.holdsId x.id then (.refuse .duplicate 0, s)
    else if 8 ≤ s.recs.queue.length then (.refuse .full 0, s)
    else
      (.ok (bytes32 (unsigned32 x.s0) ++ [BitVec.ofNat 8 (s.recs.queue.length + 1)]),
        s.onRecs fun q => { q with queue := q.queue ++ [x] })

/-- DROP_SPECIMEN (R143). -/
def handleDropSpecimen (id : RawId) (s : State) : Reply × State :=
  if idOk id = false then (.refuse .badValue 1, s)
  else if s.recs.queue.any fun x => x.id = idChars id then
    let queue := s.recs.queue.eraseP fun x => x.id = idChars id
    (.ok [BitVec.ofNat 8 queue.length], s.onRecs fun q => { q with queue := queue })
  else (.refuse .notFound 0, s)

/-- The 17 bytes of an ID: its length and sixteen places, the unused ones 0 (section 11.6). -/
def idField (id : List Byte) : List Byte := BitVec.ofNat 8 id.length :: (id ++ List.replicate (16 - id.length) 0)

/-- The 35 bytes of a READ_QUEUE record (section 11.6). -/
def Specimen.bytes (x : Specimen) : List Byte :=
  idField x.id ++ [BitVec.ofNat 8 x.slot, x.shape.code] ++ bytes32 (unsigned32 x.dim1) ++ bytes32 (unsigned32 x.dim2) ++
    bytes32 (unsigned32 x.parallel) ++ bytes32 (unsigned32 x.s0)

/-- READ_QUEUE (R144). -/
def handleReadQueue (first : Byte) (s : State) : Reply × State :=
  if 7 < first.toNat then (.refuse .badValue 1, s)
  else
    (.ok ([BitVec.ofNat 8 s.recs.queue.length, first] ++ ((s.recs.queue.drop first.toNat).take 6).flatMap Specimen.bytes), s)

/-! ### Test start (R145, R146) -/

/-- The program uses the channel (R145). -/
def Program.uses (p : Program) (c : Channel) : Bool :=
  p.stages.any (fun g => g.channel = c) || (decide (c = .position) && decide (p.holdMode = .holdPosition))

/-- The detail of the first used channel without a Kp (R145). -/
def missingGain (f : Frame) (p : Program) : Option Nat :=
  if p.uses .position ∧ f.gainsPosition.kp = 0 then some 2
  else if p.uses .force ∧ f.gainsForce.kp = 0 then some 3
  else if p.uses .strain ∧ f.gainsStrain.kp = 0 then some 4 else none

/-- What TEST_START finds: a refusal, or the head specimen with its program. -/
inductive StartCheck where
  | refused (status : Status) (detail : Nat)
  | passed (head : Specimen) (program : Program)
deriving DecidableEq, Repr

/-- The checks of TEST_START in their order (R145). -/
def State.startCheck (s : State) : StartCheck :=
  if s.frame.state ≠ .ready then .refused .wrongState 1
  else match s.recs.queue with
    | [] => .refused .empty 0
    | head :: _ =>
      if 8 ≤ s.recs.results.length then .refused .full 0
      else match s.seq.slots[head.slot]?.join with
        | none => .refused .notFound head.slot
        | some p =>
          match missingGain s.frame p with
          | some detail => .refused .wrongState detail
          | none => if p.extRequired ∧ s.strain.state ≠ .zeroed then .refused .wrongState 5 else .passed head p

/-- The servo loop's part of a test start (R45, R31, R39). -/
def Servo.start (v : Servo) (time : Word32) : Servo :=
  { v with startPos := v.latest.p, startTime := time, override := 100, entry := true }

/-- The sequencer's part of a test start: the running copy, its marks and the marker output (R111, R123). -/
def Sequencer.start (q : Sequencer) (slot : Nat) (p : Program) : Sequencer :=
  { q with running := some { slot := slot, program := p }, timeMark := false, yieldMark := false, fmaxMark := false,
           lastEnd := none, markerMode := p.markerMode, marker := decide (p.markerMode = .testLevel) }

/-- RATE_CLAMPED for each clamped value (R112). -/
def State.raiseClamped (s : State) (details : List Nat) : State :=
  details.foldl (fun t n => t.raise .rateClamped (BitVec.ofNat 32 n)) s

/-- A notice of a test that has ended, which a new test does not take up (log 8). -/
def Notice.ofTest : Notice → Bool
  | .receiverEntersLocked | .receiverLeavesLocked => false
  | .yieldFound | .fmaxPassed | .necking | .namedStage | .watchRemoval | .nextStage _ | .breakDetectionTestEnd
  | .strainSourceTestEnd => true

/-- The blocks take what is still on its way from the test before (log 8). -/
def State.settlePast (s : State) : State :=
  (s.settleEnds.onMail (·.filter fun n => !n.ofTest)).onPoints fun _ => Deliveries.none

/-- The start of a test, handed to the blocks in the order of R146. -/
def State.startTest (s : State) (head : Specimen) (program : Program) : State :=
  let s0 := s.settlePast
  let p := program.convert head.s0 s.servo.latest.p s.frame.defn.vmax
  let s1 := s0.onRecs fun r =>
    { r with queue := r.queue.tail, test := some { specimen := head, startTime := s.clock, pointMade := false } }
  let s2 := s1.onFrame fun f => { f with state := .testing, gateActed := false }
  let s3 := s2.onServo (·.start s.clock)
  let s4 := (s3.onSeq (·.start head.slot p)).raiseClamped (program.clamped s.frame.defn.vmax)
  let s5 := s4.onForce (·.start p.autoTare)
  let s6 := s5.onStrain (·.start head.parallel)
  let s7 := s6.onEval fun _ => Evaluation.start p head.s0
  let s8 := (s7.onWatches (·.map (·.arm))).onHold fun h => { h with count := 0 }
  let s9 := s8.enterStage 0 0
  s9.raise .testStarted (BitVec.ofNat 32 head.slot)

/-- TEST_START (R145, R146). -/
def handleTestStart (s : State) : Reply × State :=
  match s.startCheck with
  | .refused status detail => (.refuse status detail, s)
  | .passed head program =>
    (.ok (idField head.id ++ bytes32 (unsigned32 head.s0)), s.startTest head program)

/-- ABORT_TEST (R149). -/
def handleAbortTest (s : State) : Reply × State :=
  match s.frame.state with
  | .testing | .held => (.ok [], s.endTest .aborted 0)
  | .returning => (.ok [], s.stopCrosshead)
  | .undefined | .driveOff | .enabling | .ready | .moving | .faulted => (.refuse .wrongState 0, s)

/-! ### The result list (R151 to R154) -/

/-- A count as two bytes. -/
def bytesCount (n : Nat) : List Byte := bytes16 (BitVec.ofNat 16 n)

/-- An optional part as it is sent: 0 and its values, or its reason and zeros in their place (section 11.6). -/
def partBytes {α : Type} (part : Part α) (values : α → List Int) (size : Nat) : List Byte :=
  match part with
  | .present x => 0 :: (values x).flatMap fun v => bytes32 (signed32 v)
  | .absent r => r.code :: List.replicate size 0

/-- The removal strain as it is sent; absent without a reason is coded 7 (section 11.6). -/
def removalBytes : Option Int → List Byte
  | some v => 0 :: bytes32 (signed32 v)
  | none => 7 :: List.replicate 4 0

/-- The 115 bytes of a result record (section 11.6). -/
def Result.bytes (r : Result) : List Byte :=
  idField r.id ++ [BitVec.ofNat 8 r.slot] ++ bytes32 (unsigned32 r.s0) ++
    [BitVec.ofNat 8 r.outcome.code, BitVec.ofNat 8 r.detail] ++ bytes32 r.startTime ++ bytes32 r.duration ++
    bytes64 (signed64 r.energy) ++ bytesCount r.gapCount ++ bytesCount r.badCount ++ bytesCount r.holdCount ++
    [BitVec.ofNat 8 r.switchCount] ++ partBytes r.maxForce (fun x => [x.fmax, x.rm, x.agt]) 12 ++
    partBytes r.upperYield (fun x => [x.force, x.stress]) 8 ++ partBytes r.lowerYield (fun x => [x.force, x.stress]) 8 ++
    partBytes r.plateau (fun x => [x]) 4 ++ partBytes r.offsetYield (fun x => [x.force, x.stress]) 8 ++
    partBytes r.modulus (fun x => [x]) 4 ++ partBytes r.breakPart (fun x => [x.force, x.d, x.strain]) 12 ++
    removalBytes r.removalStrain

/-- READ_RESULT (R151); an empty list comes before a malformed ID (log 13). -/
def handleReadResult (id : Option RawId) (s : State) : Reply × State :=
  match s.recs.results with
  | [] => (.refuse .empty 0, s)
  | oldest :: _ =>
    match id with
    | none => (.ok oldest.bytes, s)
    | some id =>
      if idOk id = false then (.refuse .badValue 1, s)
      else match s.recs.results.find? fun r => r.id = idChars id with
        | some r => (.ok r.bytes, s)
        | none => (.refuse .notFound 0, s)

/-- DELETE_RESULT (R152); an empty list comes before a malformed ID (log 13). -/
def handleDeleteResult (id : RawId) (s : State) : Reply × State :=
  if s.recs.results = [] then (.refuse .empty 0, s)
  else if idOk id = false then (.refuse .badValue 1, s)
  else if s.recs.results.any fun r => r.id = idChars id then
    let results := s.recs.results.eraseP fun r => r.id = idChars id
    (.ok [BitVec.ofNat 8 results.length], s.onRecs fun q => { q with results := results })
  else (.refuse .notFound 0, s)

end Sys2Proof.Machine
end

