-- ==== Sys2Proof/Machine/EventTable.lean ====
section
/-! DEFINITION. The requests of the event table (spec/10, section 10.4), the RESET request (R155) and an occurrence. -/

namespace Sys2Proof.Machine

/-- The set of pending kinds, as it is sent (R187). -/
def Events.pendingSet (e : Events) : Word32 := kindSet (EventKind.all.filter fun k => (e.record k).isSome)

/-- The severities as they are sent: two bits for each settable kind in code order (section 11.6), the lowest code in the two
lowest bits (DESIGN CHOICE, log 44). -/
def Severities.byte (v : Severities) : Byte :=
  let bit (x : Severity) : Nat := if x = .testFault then 1 else 0
  BitVec.ofNat 8 (bit v.extGap + 4 * bit v.extLost + 16 * bit v.extRemovalTimeout + 64 * bit v.travelLimit)

/-- SET_REPORTING (R185). -/
def handleSetReporting (kinds : Word32) (s : State) : Reply × State :=
  if kinds.getLsbD 31 then (.refuse .badValue 1, s)
  else (.ok (bytes32 kinds), s.onEvents fun e => { e with enabled := kinds })

/-- The kinds whose severity can be set (R177). -/
def settable : EventKind → Bool
  | .extGap | .extLost | .extRemovalTimeout | .travelLimit => true
  | _ => false

/-- The settable kind a code names, if any (R186). -/
def settableOf (code : Nat) : Option EventKind := (EventKind.ofCode code).filter settable

/-- The severities with that of one settable kind replaced (R186). -/
def Severities.put (v : Severities) (x : Severity) : EventKind → Severities
  | .extGap => { v with extGap := x }
  | .extLost => { v with extLost := x }
  | .extRemovalTimeout => { v with extRemovalTimeout := x }
  | .travelLimit => { v with travelLimit := x }
  | _ => v

/-- SET_SEVERITY (R186). -/
def handleSetSeverity (kind severity : Byte) (s : State) : Reply × State :=
  match settableOf kind.toNat with
  | none => (.refuse .badValue 1, s)
  | some k =>
    match Severity.ofCode severity.toNat with
    | none => (.refuse .badValue 2, s)
    | some x => (.ok [], s.onEvents fun e => { e with severities := e.severities.put x k })

/-- The ten bytes of a pending record (section 11.6). -/
def Occurred.bytes (r : Occurred) : List Byte :=
  [BitVec.ofNat 8 r.count, r.cls.code] ++ bytes32 r.time ++ bytes32 r.detail

/-- The records of the pending kinds in order of code, at most 22 of them (R187). -/
def Events.carried (e : Events) : List Occurred := (EventKind.all.filterMap e.record).take 22

/-- READ_EVENTS (R187). -/
def handleReadEvents (s : State) : Reply × State :=
  ({ status := .ok, detail := BitVec.ofNat 8 s.events.carried.length,
     data := bytes32 s.events.pendingSet ++ bytes32 s.events.enabled ++ [s.events.severities.byte] ++
       s.events.carried.flatMap Occurred.bytes }, s)

/-- The table with the records of the named kinds cleared (R188). -/
def Events.clear (e : Events) (kinds : Word32) : Events :=
  EventKind.all.foldl (fun t k => if k.inSet kinds then t.put k none else t) e

/-- The records of the named kinds and their waiting frames are cleared (R188). -/
def State.clearKinds (s : State) (kinds : Word32) : State :=
  (s.onEvents (·.clear kinds)).onLink fun l => { l with eventQueue := l.eventQueue.filter fun k => !k.inSet kinds }

/-- CLEAR_EVENTS (R188). -/
def handleClearEvents (kinds : Word32) (s : State) : Reply × State :=
  if kinds.getLsbD 31 then (.refuse .badValue 1, s)
  else
    let s1 := s.clearKinds kinds
    (.ok (bytes32 s1.events.pendingSet), s1)

/-- INJECT_EVENT (R189). -/
def handleInjectEvent (kind : Byte) (s : State) : Reply × State :=
  match EventKind.ofCode kind.toNat with
  | none => (.refuse .badValue 1, s)
  | some k => (.ok [], s.raise k 0xFFFFFFFF)

/-- EVENT_OCCURRENCE: an occurrence of a kind arrives at the event table (R179, log 36). -/
def execEventOccurrence (kind : EventKind) (detail : Word32) (s : State) : Host.Outcome State Fault Refusal :=
  (s.raise kind detail).done

/-! ### RESET (R155) -/

/-- The frame supervisor's part of RESET, before the inputs' events (R25). -/
def Frame.resetRequest (f : Frame) : Frame :=
  { f with state := if f.status = .committed then .driveOff else .undefined, driveTimer := none, move := none,
           firstCause := none, causeSet := [] }

/-- The stream unit's part of RESET (R202). -/
def Stream.resetRequest (x : Stream) : Stream :=
  { x with on := false, timer := none, period := x.pendingPeriod.getD x.period, pendingPeriod := none, pendingLoss := 0,
           made := 0, dropped := 0 }

/-- The events of the cabinet inputs that are asserted, in the order E-stop, upper, lower (R16, R25, log 28). -/
def State.raiseCabinet (s : State) : State := (inputCauses s.inputs).foldl (fun t c => t.raise c.1 c.2) s

/-- The RESET request's effect in its order (R155): the test ends and its ends are taken by the force channel and the strain
source, the queue is emptied, the blocks take their parts, the event table is cleared, the inputs' events are raised again. -/
def State.resetModule (s : State) : State :=
  let s1 := (if s.inTest then s.endTest .reset 0 else s).settleEnds
  let s2 := s1.onHold fun h => { h with causes := HoldCauses.empty }
  let s3 := s2.onRecs fun r => { r with queue := [] }
  let s4 := s3.onFrame (·.resetRequest)
  let s5 := s4.onServo fun v => { v with override := 100, entry := false }
  let s6 := s5.onWatches (·.map (·.disable))
  let s7 := s6.onSeq fun q => { q with markerMode := .off, marker := false }
  let s8 := (s7.onStream (·.resetRequest)).onLink fun l => { l with streamQueue := [] }
  let s9 := s8.onStrain fun x => { x with pendingSwitch := none, ofTest := false }
  (s9.clearKinds 0x7FFFFFFF).raiseCabinet

/-- RESET (R155). -/
def handleReset (s : State) : Reply × State := (.ok [], s.resetModule)

/-- POWER_ON: every block at its power-on values, the inputs sampled, an event for each cabinet input found asserted (R24,
R16, R190); the commands that wait are kept (log 1). -/
def execPowerOn (levels : Inputs) (s : State) : Host.Outcome State Fault Refusal :=
  (State.atPowerOn levels s.pending).raiseCabinet.done

end Sys2Proof.Machine
end

