-- ==== Sys2Proof/Machine/Stream.lean ====
section
/-! DEFINITION. The stream unit (spec/11, section 11.4): its requests and the expiry of the period timer. -/

namespace Sys2Proof.Machine

/-! ### Requests (R196, R197) -/

/-- SET_STREAM (R196). -/
def handleSetStream (period : BitVec 16) (idle : Byte) (s : State) : Reply × State :=
  match yesNoOfCode idle.toNat with
  | none => (.refuse .badValue 2, s)
  | some yes =>
    let used := max 1 (min 1000 period.toNat)
    ({ status := if used = period.toNat then .ok else .clamped, detail := 0, data := bytes16 (BitVec.ofNat 16 used) },
      s.onStream fun x =>
        if x.on then { x with idle := yes, pendingPeriod := some used } else { x with idle := yes, period := used })

/-- STREAM_ON (R197). -/
def handleStreamOn (s : State) : Reply × State :=
  (.ok [], s.onStream fun x =>
    if x.on then x else { x with on := true, pendingLoss := 0, made := 0, dropped := 0, timer := some x.period })

/-- STREAM_OFF (R197). -/
def handleStreamOff (s : State) : Reply × State :=
  (.ok [], s.onStream fun x =>
    if x.on then
      { x with on := false, timer := none, period := x.pendingPeriod.getD x.period, pendingPeriod := none }
    else x)

/-! ### The period timer's expiry (R198, R199) -/

/-- The timer restarts, with the pending period where there is one (R196, R198). -/
def Stream.restart (x : Stream) : Stream :=
  let period := x.pendingPeriod.getD x.period
  { x with period := period, pendingPeriod := none, timer := some period }

/-- A record is made at an expiry (R198). -/
def State.recordsNow (s : State) : Bool :=
  match s.frame.state with
  | .testing => true
  | .held => s.program.all fun p => decide (p.streamInHold = .run)
  | .undefined | .driveOff | .enabling | .ready | .moving | .returning | .faulted => s.stream.idle

/-- The record made from the latest point (R198), with the pending loss count as its lost_before (R199). DESIGN CHOICE (log 45):
the held flag is the point's, also at an expiry in HELD before the first held update, where the table of R198 and R137 have the
flag set and the text below the table has it as in the point, which TESTING made without it. -/
def State.streamRecord (s : State) : StreamRecord :=
  let x := s.servo.latest
  { time := x.time, p := x.p, f := x.f, eps := x.eps, stage := x.stage, source := x.source, held := x.held,
    fitClosed := s.inTest && decide (s.eval.fit ≠ .opened), broken := s.inTest && s.force.capture.isSome,
    overRange := s.force.overRange, frameState := s.frame.state, lostBefore := s.stream.pendingLoss }

/-- The largest value of the stream unit's counts. -/
def countLimit : Nat := 4294967295

/-- The offer of a record to the stream queue (R199). -/
def State.offerRecord (s : State) : State :=
  if s.link.streamQueue.length < 64 then
    let s1 := s.onLink fun l => { l with streamQueue := l.streamQueue ++ [s.streamRecord] }
    let s2 := s1.onStream fun x => { x with pendingLoss := 0 }
    if s.seq.markerMode = .recordToggle then s2.onSeq fun q => { q with marker := !q.marker } else s2
  else
    let loss := saturate countLimit s.stream.pendingLoss 1
    (s.onStream fun x => { x with pendingLoss := loss, dropped := saturate countLimit x.dropped 1 }).raise .streamLoss
      (BitVec.ofNat 32 loss)

/-- The timer's expiry while it runs (R198). -/
def State.streamExpiry (s : State) : State :=
  let s1 := s.onStream (·.restart)
  if s1.recordsNow then (s1.onStream fun x => { x with made := saturate countLimit x.made 1 }).offerRecord else s1

/-- STREAM_PERIOD_EXPIRY (R198). -/
def execStreamPeriodExpiry (s : State) : Host.Outcome State Fault Refusal :=
  (if s.stream.timer.isSome then s.streamExpiry else s).done

end Sys2Proof.Machine
end

