-- ==== Sys2Proof/Machine/Status.lean ====
section
/-! DEFINITION. GET_STATUS (R200) and DESCRIBE (R201): the bytes of their replies, in the layouts of spec/11, section 11.6. -/

namespace Sys2Proof.Machine

/-! ### Pieces -/

/-- A signed four-byte field. -/
def field (x : Int) : List Byte := bytes32 (signed32 x)

/-- An unsigned four-byte field. -/
def count32 (n : Nat) : List Byte := bytes32 (unsigned32 n)

/-- A presence byte and the value, 0 when absent. -/
def presentField : Option Int → List Byte
  | some v => 1 :: field v
  | none => [0, 0, 0, 0, 0]

/-- A value, sent as 0 when absent. -/
def valueField (v : Option Int) : List Byte := field (v.getD 0)

/-- A count as one byte. -/
def byteOf (n : Nat) : Byte := BitVec.ofNat 8 n

/-- The 27 bytes of a latest point (section 11.6). -/
def Point.bytes (x : Point) : List Byte :=
  bytes32 x.time ++ bytes32 x.testTime ++ field x.p ++ field x.d ++ field x.f ++ field x.eps ++
    [x.source.code, stageByte x.stage, flagByte x.held]

/-- A sample as DESCRIBE and GET_STATUS carry it: elongation, flags, lost count; zeros when absent. -/
def sampleBytes : Option Sample → List Byte
  | some x => field x.elongation ++ [x.flags, byteOf x.lost]
  | none => [0, 0, 0, 0, 0, 0]

/-! ### The groups of GET_STATUS (section 11.6) -/

/-- The first cause: its kind code, 0xFF when absent, its detail and its time (R15). -/
def firstCauseBytes : Option FirstCause → List Byte
  | some c => byteOf c.kind.code.val :: (bytes32 c.detail ++ bytes32 c.time)
  | none => [0xFF, 0, 0, 0, 0, 0, 0, 0, 0]

/-- The loop's part of group 0, as it stood at the latest servo update (R48, log 26). -/
def Servo.bytes (v : Servo) : List Byte :=
  [v.reported.channel.code] ++ bytes64 (signed64 v.reported.sp) ++ bytes16 (BitVec.ofInt 16 v.reported.q) ++
    field v.reported.uLast ++ bytes16 (BitVec.ofInt 16 v.reported.override) ++ v.latest.bytes

/-- Group 0, FRAME. -/
def State.frameGroup (s : State) : List Byte :=
  [s.frame.state.code, s.frame.status.code] ++ firstCauseBytes s.frame.firstCause ++ bytes32 (kindSet s.frame.causeSet) ++
    [inputFlags s.inputs] ++ field s.servo.latest.p ++ bytes32 s.frame.rawCount ++ field s.frame.offset ++ s.servo.bytes

/-- The break capture: presence, the fields, the condition and the time; zeros when absent (R65, R67). -/
def captureBytes : Option Capture → List Byte
  | some c => 1 :: (field c.force ++ field c.p ++ field c.d ++ field c.eps ++ [c.condition.code] ++ bytes32 c.time)
  | none => List.replicate 22 0

/-- Group 1, FORCE (R67). -/
def State.forceGroup (s : State) : List Byte :=
  field s.force.raw ++ [flagByte s.force.overRange] ++ field s.force.fLin ++ field s.force.tare ++
    [byteOf s.force.filterLength] ++ field s.force.filtered ++ [flagByte s.force.overload] ++ field s.force.peak ++
    [flagByte s.force.armed] ++ captureBytes s.force.capture

/-- The sequence reference, 0xFF when absent. -/
def seqRefByte : Option (BitVec 4) → Byte
  | some r => r.setWidth 8
  | none => 0xFF

/-- The receiver's part of group 2 (R83). -/
def State.receiverBytes (s : State) : List Byte :=
  [s.ext.state.code, flagByte s.inputs.presence, byteOf s.ext.fifo.length, byteOf s.ext.pendingDrop,
   byteOf s.ext.badCount, seqRefByte s.ext.seqRef, flagByte s.ext.latest.isSome] ++ sampleBytes s.ext.latest

/-- The strain source's part of group 2 (R104). -/
def State.strainBytes (s : State) : List Byte :=
  [s.strain.state.code] ++ field s.strain.heldMean ++ bytesCount s.strain.starvation ++ presentField s.strain.zero ++
    valueField s.strain.gauge ++ field s.strain.k ++ presentField s.strain.pendingSwitch ++
    [flagByte s.strain.state.removeOutput, flagByte s.inputs.retracted, flagByte s.strain.timer.isSome] ++
    count32 (s.strain.timer.getD 0) ++ [flagByte s.strain.ofTest]

/-- Group 2, EXTENSOMETER. -/
def State.extensometerGroup (s : State) : List Byte := s.receiverBytes ++ s.strainBytes

/-- A slot: loaded, and its stage count (R107). -/
def slotBytes : Option Program → List Byte
  | some p => [1, byteOf p.stages.length]
  | none => [0, 0]

/-- The stage timer: its state and its remaining time (R122). -/
def StageTimer.bytes : StageTimer → List Byte
  | .stopped => [0, 0, 0, 0, 0]
  | .running r => 1 :: count32 r
  | .paused r => 2 :: count32 r

/-- A watch entry: enabled, state, action, previous value (R125). A TEST_TIME value is unsigned. -/
def Watch.bytes (w : Watch) : List Byte :=
  [flagByte w.enabled, w.state.code, w.action.code, flagByte w.previous.isSome] ++
    match w.previous, w.quantity with
    | some v, .testTime => bytes32 (unsigned32 v)
    | some v, _ => field v
    | none, _ => [0, 0, 0, 0]

/-- The sequencer's part of group 3 (R107, R122). -/
def State.sequencerBytes (s : State) : List Byte :=
  s.seq.slots.toList.flatMap slotBytes ++
    [((s.seq.running.map (·.slot)).map byteOf).getD 0xFF, stageByte s.seq.stage,
     byteOf ((s.program.map fun p => p.stages.length).getD 0)] ++ s.seq.timer.bytes ++ [s.seq.markFlags]

/-- The test in progress and the collections' part of group 3 (R148, R156, log 26). -/
def State.recordsBytes (s : State) : List Byte :=
  idField ((s.recs.test.map (·.specimen.id)).getD []) ++ bytes32 (unsigned32 s.s0) ++ bytes32 s.servo.testTime ++
    [byteOf s.recs.queue.length, byteOf s.recs.results.length] ++ idField ((s.recs.queue.head?.map (·.id)).getD [])

/-- Hold control's part of group 3; the modes come from the running copy, 0 when there is none (R139). -/
def State.holdBytes (s : State) : List Byte :=
  [s.holdByte] ++ bytesCount s.hold.count ++
    [(s.program.map (·.holdMode.code)).getD 0, (s.program.map (·.timersInHold.code)).getD 0,
     (s.program.map (·.streamInHold.code)).getD 0]

/-- The evaluation unit's part of group 3 (R175). -/
def Evaluation.bytes (e : Evaluation) : List Byte :=
  [e.phase.code, e.fit.code] ++ bytes64 (signed64 e.n) ++
    [flagByte e.overflow, flagByte e.tracking.isSome, e.path.code, e.plateau.code]

/-- Group 3, TEST. -/
def State.testGroup (s : State) : List Byte :=
  s.sequencerBytes ++ s.recordsBytes ++ s.holdBytes ++ s.watches.toList.flatMap Watch.bytes ++ s.eval.bytes ++
    [flagByte s.seq.marker]

/-- Group 4, EVENTS AND LINK. -/
def State.linkGroup (s : State) : List Byte :=
  bytes32 s.events.pendingSet ++ [byteOf s.link.eventQueue.length, flagByte s.stream.on] ++
    bytesCount s.stream.period ++ bytesCount (s.stream.pendingPeriod.getD 0) ++
    [flagByte s.stream.idle, byteOf s.link.streamQueue.length] ++ count32 s.stream.pendingLoss ++
    count32 s.stream.made ++ count32 s.stream.dropped ++
    [byteOf s.link.slots.length, byteOf s.link.replies.length, flagByte s.inputs.hostReady]

/-- The contents of a group, none for a code above 4 (R200). -/
def State.statusGroup (s : State) : Nat → Option (List Byte)
  | 0 => some s.frameGroup
  | 1 => some s.forceGroup
  | 2 => some s.extensometerGroup
  | 3 => some s.testGroup
  | 4 => some s.linkGroup
  | _ => none

/-- GET_STATUS (R200). -/
def handleGetStatus (group : Byte) (s : State) : Reply × State :=
  match s.statusGroup group.toNat with
  | some data => (.ok data, s)
  | none => (.refuse .badValue 1, s)

/-! ### DESCRIBE (R201) -/

/-- A descriptor: its type, its length and its contents. -/
def descriptor (kind : Byte) (contents : List Byte) : List Byte := kind :: byteOf contents.length :: contents

/-- FRAME: before commit the stored fields of the open definition. -/
def State.frameDescriptor (s : State) : List Byte :=
  descriptor 1 ([s.frame.status.code, s.frame.state.code] ++ field s.frame.defn.capacity ++ field s.frame.defn.vmax ++
    field s.frame.defn.travelMin ++ field s.frame.defn.travelMax ++ field s.frame.defn.compliance)

/-- FORCE: before commit a capacity of 0 and no points (R67). -/
def State.forceDescriptor (s : State) : List Byte :=
  let capacity := if s.committed then s.frame.defn.capacity else 0
  let points := if s.committed then s.frame.defn.points else []
  descriptor 2 (field capacity ++ bytes32 (unsigned32 (capacity * 1100)) ++ [byteOf points.length] ++
    points.flatMap (fun x => field x.raw ++ field x.force) ++ field s.force.tare ++ [byteOf s.force.filterLength])

/-- CROSSHEAD. -/
def State.crossheadDescriptor (s : State) : List Byte :=
  descriptor 3 (field s.frame.defn.nmPerCount ++ field s.servo.latest.p ++ bytes32 s.frame.rawCount ++
    field s.frame.offset ++ field s.servo.startPos)

/-- EXTENSOMETER, in the chain while the receiver is LOCKED; the extensometer strain is sent as 0 without a zero (R83,
R104). -/
def State.extensometerDescriptor (s : State) : List Byte :=
  if s.ext.state = .locked then
    descriptor 4 (sampleBytes s.ext.latest ++ [s.strain.state.code] ++ presentField s.strain.zero ++
      valueField s.strain.gauge ++ field s.strain.heldMean ++ field s.strain.following ++
      bytesCount s.strain.starvation)
  else []

/-- MARKER. -/
def State.markerDescriptor (s : State) : List Byte := descriptor 5 [s.seq.markerMode.code, flagByte s.seq.marker]

/-- DESCRIBE: the chain of descriptors (R201). -/
def handleDescribe (s : State) : Reply × State :=
  (.ok (s.frameDescriptor ++ s.forceDescriptor ++ s.crossheadDescriptor ++ s.extensometerDescriptor ++
    s.markerDescriptor), s)

end Sys2Proof.Machine
end

