-- ==== Sys2Proof/Machine/Link.lean ====
section
/-! DEFINITION. The host link (spec/11): which handler a request goes to, its execution and reply, the receiver, and the
transmitter's events. -/

namespace Sys2Proof.Machine

/-! ### Handing a request to its block (R194) -/

/-- The block that owns the state concerned takes the request and decides the reply (R194). -/
def perform : Request → State → Reply × State
  | .defineFrame d => handleDefineFrame d
  | .commitFrame => handleCommitFrame
  | .setLoop channel kp ki kf => handleSetLoop channel kp ki kf
  | .driveOn => handleDriveOn
  | .driveOff => handleDriveOff
  | .clearFault => handleClearFault
  | .jog speed => handleJog speed
  | .moveTo target speed => handleMoveTo target speed
  | .stopMove => handleStopMove
  | .setPosition value => handleSetPosition value
  | .setOverride percent => handleSetOverride percent
  | .tare => handleTare
  | .setFilter n => handleSetFilter n
  | .zeroExt gauge => handleZeroExt gauge
  | .loadProgram slot program => handleLoadProgram slot program
  | .addSpecimen r => handleAddSpecimen r
  | .dropSpecimen id => handleDropSpecimen id
  | .readQueue first => handleReadQueue first
  | .testStart => handleTestStart
  | .abortTest => handleAbortTest
  | .holdTest => handleHoldTest
  | .clearHold causes => handleClearHold causes
  | .resumeTest => handleResumeTest
  | .setWatch index w => handleSetWatch index w
  | .readResult id => handleReadResult id
  | .deleteResult id => handleDeleteResult id
  | .setReporting kinds => handleSetReporting kinds
  | .setSeverity kind severity => handleSetSeverity kind severity
  | .readEvents => handleReadEvents
  | .clearEvents kinds => handleClearEvents kinds
  | .injectEvent kind => handleInjectEvent kind
  | .setStream period idle => handleSetStream period idle
  | .streamOn => handleStreamOn
  | .streamOff => handleStreamOff
  | .getStatus group => handleGetStatus group
  | .describe => handleDescribe
  | .reset => handleReset

/-- What the link makes of a request frame: UNKNOWN_KIND and BAD_LENGTH come before the request's own rule (R194). -/
def performFrame (f : RequestFrame) (s : State) : Reply × State :=
  match readRequest f.kind f.body with
  | .request r => perform r s
  | .badLength => (.refuse .badLength 0, s)
  | .unknownKind => (.refuse .unknownKind 0, s)

/-! ### Slots and replies (R193, R194) -/

/-- A good frame behind the requests that already wait (R193). -/
def State.placed (s : State) (f : RequestFrame) : State := s.onLink fun l => { l with slots := l.slots ++ [f] }

/-- The reply at the end of the reply queue, and the oldest slot freed (R194). -/
def answered (f : RequestFrame) (r : Reply × State) : State :=
  r.2.onLink fun l => { l with slots := l.slots.tail, replies := l.replies ++ [r.1.frame f.kind f.tag] }

/-- The oldest waiting request is executed (R194). -/
def State.executeOldest (s : State) : State :=
  match s.link.slots with
  | [] => s
  | f :: _ => answered f (performFrame f s)

/-- The transmitter and the waiting requests in turn: an idle transmitter takes a frame, and a request is executed as soon
as the reply queue has a free place (R194, R195). Two slots call for no more than three turns. -/
def State.service : Nat → State → State
  | 0, s => s.transmit
  | n + 1, s =>
    let s1 := s.transmit
    if s1.link.slots ≠ [] ∧ s1.link.replies.length < 2 then State.service n s1.executeOldest else s1

/-! ### The frame check (R191) -/

/-- One bit of the check: the generator 0x1021 (R191). -/
def crcShift (c : BitVec 16) : BitVec 16 := if c.getLsbD 15 then (c <<< 1) ^^^ 0x1021#16 else c <<< 1

/-- One byte of the check, most significant bit first (R191). -/
def crcByte (c : BitVec 16) (b : Byte) : BitVec 16 :=
  crcShift (crcShift (crcShift (crcShift (crcShift (crcShift (crcShift (crcShift (c ^^^ (b ++ 0#8)))))))))

/-- The check over the bytes from LENGTH to the body, starting from 0xFFFF (R191). -/
def crc16 (bytes : List Byte) : BitVec 16 := bytes.foldl crcByte 0xFFFF#16

/-- The bytes of a frame that the check covers. -/
def coveredBytes (kind tag : Byte) (body : List Byte) : List Byte := BitVec.ofNat 8 body.length :: kind :: tag :: body

/-- The bytes of a frame after its START: LENGTH, KIND, TAG, body and the check, low byte first. -/
def bytesAfterStart (kind tag : Byte) (body : List Byte) : List Byte :=
  coveredBytes kind tag body ++ bytes16 (crc16 (coveredBytes kind tag body))

/-- The bytes of a frame the module sends (section 11.1). -/
def LinkFrame.bytes (f : LinkFrame) : List Byte := 0xA5 :: bytesAfterStart f.kind f.tag f.body

/-! ### The receiver (R192, R193) -/

/-- What the bytes taken since START make. -/
inductive Assembly where
  /-- the frame is not complete -/
  | more
  /-- a frame whose check is good -/
  | good (f : RequestFrame)
  /-- a frame to be discarded with this reason: 1 LENGTH, 3 CRC -/
  | bad (reason : Nat)
deriving DecidableEq, Repr

/-- The verdict on the bytes taken since START (R192). -/
def assemblyOf (bytes : List Byte) : Assembly :=
  let size := (at8 bytes 0).toNat
  if 240 < size then .bad 1
  else if bytes.length < size + 5 then .more
  else if at16 bytes (size + 3) = crc16 (bytes.take (size + 3)) then
    .good { kind := at8 bytes 1, tag := at8 bytes 2, body := (bytes.drop 3).take size }
  else .bad 3

/-- The receiver in HUNT with its byte timer stopped (R192). -/
def Link.hunting (l : Link) : Link := { l with rx := none, rxTimer := none }

/-- The receiver assembling, its byte timer restarted (R192). -/
def Link.assembling (l : Link) (bytes : List Byte) : Link := { l with rx := some bytes, rxTimer := some 5 }

/-- A discard: LINK_RX_ERROR with its reason, and the receiver in HUNT (R192). -/
def State.discard (s : State) (reason : Nat) : State :=
  (s.onLink (·.hunting)).raise .linkRxError (BitVec.ofNat 32 reason)

/-- A byte as the receiver takes it: the state after it, and the bytes to be taken again (R192, R193). -/
def State.takeHostByte (s : State) (b : Byte) : State × List Byte :=
  match s.link.rx with
  | none => (if b = 0xA5 then s.onLink (·.assembling []) else s, [])
  | some got =>
    let bytes := got ++ [b]
    match assemblyOf bytes with
    | .more => (s.onLink (·.assembling bytes), [])
    | .bad reason => (s.discard reason, bytes)
    | .good f =>
      if s.link.slots.length < 2 then (((s.onLink (·.hunting)).placed f).service 3, [])
      else (s.discard 4, bytes)

/-- Bytes taken one after another; the bytes of a discarded assembly are taken again before those that follow (R192). The
fuel is enough because each re-taking starts after a START that is not taken again (log 27). -/
def State.feed : Nat → List Byte → State → State
  | 0, _, s => s
  | _, [], s => s
  | n + 1, b :: rest, s => State.feed n ((s.takeHostByte b).2 ++ rest) (s.takeHostByte b).1

/-- Fuel for taking a number of bytes with all their re-takings. -/
def feedFuel (n : Nat) : Nat := (n + 1) * (n + 1)

/-- HOST_BYTE (R192). -/
def execHostByte (b : Byte) (s : State) : Host.Outcome State Fault Refusal :=
  (s.feed (feedFuel ((s.link.rx.getD []).length + 1)) [b]).done

/-- RX_BYTE_TIMER_EXPIRY: an assembly is discarded with reason TIMEOUT, and its bytes are taken again (R192). -/
def execRxByteTimerExpiry (s : State) : Host.Outcome State Fault Refusal :=
  (match s.link.rx with
    | some bytes => (s.discard 2).feed (feedFuel bytes.length) bytes
    | none => s).done

/-! ### The arrival of a good request frame -/

/-- A good frame with both slots full: OVERFLOW, and its bytes after START are taken again where the receiver hunts (R192,
R193, log 11). -/
def State.overflow (s : State) (f : RequestFrame) : State :=
  let bytes := bytesAfterStart f.kind f.tag f.body
  let s1 := s.raise .linkRxError 4
  if s1.link.rx = none then (s1.feed (feedFuel bytes.length) bytes).transmit else s1.transmit

/-- A good frame that finds a request waiting before it, or no place for its reply (R193, R194). -/
def State.arrive (s : State) (f : RequestFrame) : State :=
  if s.link.slots.length < 2 then (s.placed f).service 3 else s.overflow f

/-- The request's frame finds the slots empty and a free place in the reply queue. -/
abbrev State.free (s : State) : Prop := s.link.slots = [] ∧ s.link.replies.length < 2

/-- A request command (log 11): the request's frame is placed in a slot; where it can be executed at once its block takes
it, its reply is queued and its slot freed (R193, R194), and the arbiter looks at the transmitter. -/
def State.request (s : State) (f : RequestFrame) (handler : State → Reply × State) : Host.Outcome State Fault Refusal :=
  if s.free then (answered f (handler (s.placed f))).done else .next (s.arrive f)

/-! ### The transmitter's events (R195) -/

/-- TRANSMIT_FRAME_END: a frame boundary; the arbiter chooses, and waiting requests are executed as places come free. -/
def execTransmitFrameEnd (s : State) : Host.Outcome State Fault Refusal :=
  .next ((s.onLink fun l => { l with tx := none }).service 3)

/-- HOST_READY_CHANGE: asserted, the arbiter chooses at once (R195). -/
def execHostReadyChange (level : Bool) (s : State) : Host.Outcome State Fault Refusal :=
  .next ((s.onInputs fun i => { i with hostReady := level }).service 3)

end Sys2Proof.Machine
end

