-- ==== Sys2Proof/Machine/Requests.lean ====
section
/-! DEFINITION. The request commands: each is the arrival of its good request frame (R193, R194, log 11). -/

namespace Sys2Proof.Machine

/-- The frame in which the host sends a request: its code, the host's TAG, and the body the directory lays out. -/
def frameOf (r : Request) (tag : Byte) : RequestFrame := { kind := r.code, tag := tag, body := r.body }

/-- DEFINE_FRAME (R3); a record that does not agree with its count has a bad length. -/
def execDefineFrame (tag : Byte) (d : RawDefinition) (s : State) : Host.Outcome State Fault Refusal :=
  s.request { kind := 0x01, tag := tag, body := definitionBytes d } (handleDefineFrame (if d.agrees then some d else none))

/-- COMMIT_FRAME (R4, R5). -/
def execCommitFrame (tag : Byte) (s : State) : Host.Outcome State Fault Refusal :=
  s.request (frameOf .commitFrame tag) handleCommitFrame

/-- SET_LOOP (R8). -/
def execSetLoop (tag : Byte) (channel : Byte) (kp ki kf : Word32) (s : State) : Host.Outcome State Fault Refusal :=
  s.request (frameOf (.setLoop channel kp ki kf) tag) (handleSetLoop channel kp ki kf)

/-- DRIVE_ON (R9, R10). -/
def execDriveOn (tag : Byte) (s : State) : Host.Outcome State Fault Refusal :=
  s.request (frameOf .driveOn tag) handleDriveOn

/-- DRIVE_OFF (R13). -/
def execDriveOff (tag : Byte) (s : State) : Host.Outcome State Fault Refusal :=
  s.request (frameOf .driveOff tag) handleDriveOff

/-- CLEAR_FAULT (R17). -/
def execClearFault (tag : Byte) (s : State) : Host.Outcome State Fault Refusal :=
  s.request (frameOf .clearFault tag) handleClearFault

/-- JOG (R19). -/
def execJog (tag : Byte) (speed : Word32) (s : State) : Host.Outcome State Fault Refusal :=
  s.request (frameOf (.jog speed) tag) (handleJog speed)

/-- MOVE_TO (R20). -/
def execMoveTo (tag : Byte) (target speed : Word32) (s : State) : Host.Outcome State Fault Refusal :=
  s.request (frameOf (.moveTo target speed) tag) (handleMoveTo target speed)

/-- STOP_MOVE (R22). -/
def execStopMove (tag : Byte) (s : State) : Host.Outcome State Fault Refusal :=
  s.request (frameOf .stopMove tag) handleStopMove

/-- SET_POSITION (R7). -/
def execSetPosition (tag : Byte) (value : Word32) (s : State) : Host.Outcome State Fault Refusal :=
  s.request (frameOf (.setPosition value) tag) (handleSetPosition value)

/-- SET_OVERRIDE (R31). -/
def execSetOverride (tag : Byte) (percent : BitVec 16) (s : State) : Host.Outcome State Fault Refusal :=
  s.request (frameOf (.setOverride percent) tag) (handleSetOverride percent)

/-- TARE (R55). -/
def execTare (tag : Byte) (s : State) : Host.Outcome State Fault Refusal :=
  s.request (frameOf .tare tag) handleTare

/-- SET_FILTER (R59). -/
def execSetFilter (tag : Byte) (n : Byte) (s : State) : Host.Outcome State Fault Refusal :=
  s.request (frameOf (.setFilter n) tag) (handleSetFilter n)

/-- ZERO_EXT (R89). -/
def execZeroExt (tag : Byte) (gauge : Word32) (s : State) : Host.Outcome State Fault Refusal :=
  s.request (frameOf (.zeroExt gauge) tag) (handleZeroExt gauge)

/-- LOAD_PROGRAM (R108); a record that does not agree with its count has a bad length. -/
def execLoadProgram (tag : Byte) (slot : Byte) (program : RawProgram) (s : State) : Host.Outcome State Fault Refusal :=
  s.request { kind := 0x10, tag := tag, body := slot :: programBytes program } (handleLoadProgram slot (if program.agrees then some program else none))

/-- ADD_SPECIMEN (R141). -/
def execAddSpecimen (tag : Byte) (specimen : RawSpecimen) (s : State) : Host.Outcome State Fault Refusal :=
  s.request (frameOf (.addSpecimen specimen) tag) (handleAddSpecimen specimen)

/-- DROP_SPECIMEN (R143). -/
def execDropSpecimen (tag : Byte) (id : RawId) (s : State) : Host.Outcome State Fault Refusal :=
  s.request (frameOf (.dropSpecimen id) tag) (handleDropSpecimen id)

/-- READ_QUEUE (R144). -/
def execReadQueue (tag : Byte) (first : Byte) (s : State) : Host.Outcome State Fault Refusal :=
  s.request (frameOf (.readQueue first) tag) (handleReadQueue first)

/-- TEST_START (R145, R146). -/
def execTestStart (tag : Byte) (s : State) : Host.Outcome State Fault Refusal :=
  s.request (frameOf .testStart tag) handleTestStart

/-- ABORT_TEST (R149). -/
def execAbortTest (tag : Byte) (s : State) : Host.Outcome State Fault Refusal :=
  s.request (frameOf .abortTest tag) handleAbortTest

/-- HOLD_TEST (R134). -/
def execHoldTest (tag : Byte) (s : State) : Host.Outcome State Fault Refusal :=
  s.request (frameOf .holdTest tag) handleHoldTest

/-- CLEAR_HOLD (R135). -/
def execClearHold (tag : Byte) (causes : Byte) (s : State) : Host.Outcome State Fault Refusal :=
  s.request (frameOf (.clearHold causes) tag) (handleClearHold causes)

/-- RESUME_TEST (R136). -/
def execResumeTest (tag : Byte) (s : State) : Host.Outcome State Fault Refusal :=
  s.request (frameOf .resumeTest tag) handleResumeTest

/-- SET_WATCH (R126). -/
def execSetWatch (tag : Byte) (index : Byte) (watch : RawWatch) (s : State) : Host.Outcome State Fault Refusal :=
  s.request (frameOf (.setWatch index watch) tag) (handleSetWatch index watch)

/-- READ_RESULT (R151). -/
def execReadResult (tag : Byte) (id : Option RawId) (s : State) : Host.Outcome State Fault Refusal :=
  s.request (frameOf (.readResult id) tag) (handleReadResult id)

/-- DELETE_RESULT (R152). -/
def execDeleteResult (tag : Byte) (id : RawId) (s : State) : Host.Outcome State Fault Refusal :=
  s.request (frameOf (.deleteResult id) tag) (handleDeleteResult id)

/-- SET_REPORTING (R185). -/
def execSetReporting (tag : Byte) (kinds : Word32) (s : State) : Host.Outcome State Fault Refusal :=
  s.request (frameOf (.setReporting kinds) tag) (handleSetReporting kinds)

/-- SET_SEVERITY (R186). -/
def execSetSeverity (tag : Byte) (kind severity : Byte) (s : State) : Host.Outcome State Fault Refusal :=
  s.request (frameOf (.setSeverity kind severity) tag) (handleSetSeverity kind severity)

/-- READ_EVENTS (R187). -/
def execReadEvents (tag : Byte) (s : State) : Host.Outcome State Fault Refusal :=
  s.request (frameOf .readEvents tag) handleReadEvents

/-- CLEAR_EVENTS (R188). -/
def execClearEvents (tag : Byte) (kinds : Word32) (s : State) : Host.Outcome State Fault Refusal :=
  s.request (frameOf (.clearEvents kinds) tag) (handleClearEvents kinds)

/-- INJECT_EVENT (R189). -/
def execInjectEvent (tag : Byte) (kind : Byte) (s : State) : Host.Outcome State Fault Refusal :=
  s.request (frameOf (.injectEvent kind) tag) (handleInjectEvent kind)

/-- SET_STREAM (R196). -/
def execSetStream (tag : Byte) (period : BitVec 16) (idle : Byte) (s : State) : Host.Outcome State Fault Refusal :=
  s.request (frameOf (.setStream period idle) tag) (handleSetStream period idle)

/-- STREAM_ON (R197). -/
def execStreamOn (tag : Byte) (s : State) : Host.Outcome State Fault Refusal :=
  s.request (frameOf .streamOn tag) handleStreamOn

/-- STREAM_OFF (R197). -/
def execStreamOff (tag : Byte) (s : State) : Host.Outcome State Fault Refusal :=
  s.request (frameOf .streamOff tag) handleStreamOff

/-- GET_STATUS (R200). -/
def execGetStatus (tag : Byte) (group : Byte) (s : State) : Host.Outcome State Fault Refusal :=
  s.request (frameOf (.getStatus group) tag) (handleGetStatus group)

/-- DESCRIBE (R201). -/
def execDescribe (tag : Byte) (s : State) : Host.Outcome State Fault Refusal :=
  s.request (frameOf .describe tag) handleDescribe

/-- RESET (R155). -/
def execReset (tag : Byte) (s : State) : Host.Outcome State Fault Refusal :=
  s.request (frameOf .reset tag) handleReset

/-- UNKNOWN_KIND: a KIND that names no request is answered UNKNOWN_KIND with detail 0 (R194, log 38). -/
def execUnknownKind (kind tag : Byte) (body : List Byte) (s : State) : Host.Outcome State Fault Refusal :=
  s.request { kind := kind, tag := tag, body := body } (performFrame { kind := kind, tag := tag, body := body })

end Sys2Proof.Machine
end

