-- ==== Sys2Proof/Machine/Dispatch.lean ====
section
/-! DEFINITION. One arm per command: each a direct call of its meaning. -/

namespace Sys2Proof.Machine

/-- The effect of a command on everything but the queue. -/
def exec (i : Instr) (s : State) : Host.Outcome State Fault Refusal :=
  match i with
  | .powerOn levels => Sys2Proof.Machine.execPowerOn levels s
  | .servoUpdate encoder retractedStill => Sys2Proof.Machine.execServoUpdate encoder retractedStill s
  | .conversion raw => Sys2Proof.Machine.execConversion raw s
  | .defineFrame tag d => Sys2Proof.Machine.execDefineFrame tag d s
  | .commitFrame tag => Sys2Proof.Machine.execCommitFrame tag s
  | .setLoop tag channel kp ki kf => Sys2Proof.Machine.execSetLoop tag channel kp ki kf s
  | .driveOn tag => Sys2Proof.Machine.execDriveOn tag s
  | .driveOff tag => Sys2Proof.Machine.execDriveOff tag s
  | .clearFault tag => Sys2Proof.Machine.execClearFault tag s
  | .jog tag speed => Sys2Proof.Machine.execJog tag speed s
  | .moveTo tag target speed => Sys2Proof.Machine.execMoveTo tag target speed s
  | .stopMove tag => Sys2Proof.Machine.execStopMove tag s
  | .setPosition tag value => Sys2Proof.Machine.execSetPosition tag value s
  | .setOverride tag percent => Sys2Proof.Machine.execSetOverride tag percent s
  | .tare tag => Sys2Proof.Machine.execTare tag s
  | .setFilter tag n => Sys2Proof.Machine.execSetFilter tag n s
  | .zeroExt tag gauge => Sys2Proof.Machine.execZeroExt tag gauge s
  | .loadProgram tag slot program => Sys2Proof.Machine.execLoadProgram tag slot program s
  | .addSpecimen tag specimen => Sys2Proof.Machine.execAddSpecimen tag specimen s
  | .dropSpecimen tag id => Sys2Proof.Machine.execDropSpecimen tag id s
  | .readQueue tag first => Sys2Proof.Machine.execReadQueue tag first s
  | .testStart tag => Sys2Proof.Machine.execTestStart tag s
  | .abortTest tag => Sys2Proof.Machine.execAbortTest tag s
  | .holdTest tag => Sys2Proof.Machine.execHoldTest tag s
  | .clearHold tag causes => Sys2Proof.Machine.execClearHold tag causes s
  | .resumeTest tag => Sys2Proof.Machine.execResumeTest tag s
  | .setWatch tag index watch => Sys2Proof.Machine.execSetWatch tag index watch s
  | .readResult tag id => Sys2Proof.Machine.execReadResult tag id s
  | .deleteResult tag id => Sys2Proof.Machine.execDeleteResult tag id s
  | .setReporting tag kinds => Sys2Proof.Machine.execSetReporting tag kinds s
  | .setSeverity tag kind severity => Sys2Proof.Machine.execSetSeverity tag kind severity s
  | .readEvents tag => Sys2Proof.Machine.execReadEvents tag s
  | .clearEvents tag kinds => Sys2Proof.Machine.execClearEvents tag kinds s
  | .injectEvent tag kind => Sys2Proof.Machine.execInjectEvent tag kind s
  | .setStream tag period idle => Sys2Proof.Machine.execSetStream tag period idle s
  | .streamOn tag => Sys2Proof.Machine.execStreamOn tag s
  | .streamOff tag => Sys2Proof.Machine.execStreamOff tag s
  | .getStatus tag group => Sys2Proof.Machine.execGetStatus tag group s
  | .describe tag => Sys2Proof.Machine.execDescribe tag s
  | .reset tag => Sys2Proof.Machine.execReset tag s
  | .unknownKind kind tag body => Sys2Proof.Machine.execUnknownKind kind tag body s
  | .driveReadySeen => Sys2Proof.Machine.execDriveReadySeen s
  | .driveReadyCeases cause => Sys2Proof.Machine.execDriveReadyCeases cause s
  | .driveEnableTimerExpiry => Sys2Proof.Machine.execDriveEnableTimerExpiry s
  | .cabinetInputAsserted input => Sys2Proof.Machine.execCabinetInputAsserted input s
  | .cabinetInputReleased input => Sys2Proof.Machine.execCabinetInputReleased input s
  | .settleTimerExpiry => Sys2Proof.Machine.execSettleTimerExpiry s
  | .stageTimerExpiry => Sys2Proof.Machine.execStageTimerExpiry s
  | .sequencerTestPoint => Sys2Proof.Machine.execSequencerTestPoint s
  | .watchTestPoint => Sys2Proof.Machine.execWatchTestPoint s
  | .evaluationTestPoint => Sys2Proof.Machine.execEvaluationTestPoint s
  | .removalTriggerTestPoint => Sys2Proof.Machine.execRemovalTriggerTestPoint s
  | .yieldNotice => Sys2Proof.Machine.execYieldNotice s
  | .fmaxPassedNotice => Sys2Proof.Machine.execFmaxPassedNotice s
  | .neckingNotice => Sys2Proof.Machine.execNeckingNotice s
  | .namedStageNotice => Sys2Proof.Machine.execNamedStageNotice s
  | .watchRemovalTrigger => Sys2Proof.Machine.execWatchRemovalTrigger s
  | .nextStage => Sys2Proof.Machine.execNextStage s
  | .breakDetectionTestEnd => Sys2Proof.Machine.execBreakDetectionTestEnd s
  | .strainSourceTestEnd => Sys2Proof.Machine.execStrainSourceTestEnd s
  | .extByte b => Sys2Proof.Machine.execExtByte b s
  | .extByteTimerExpiry => Sys2Proof.Machine.execExtByteTimerExpiry s
  | .presenceDeasserted => Sys2Proof.Machine.execPresenceDeasserted s
  | .presenceAsserted => Sys2Proof.Machine.execPresenceAsserted s
  | .receiverEntersLocked => Sys2Proof.Machine.execReceiverEntersLocked s
  | .receiverLeavesLocked => Sys2Proof.Machine.execReceiverLeavesLocked s
  | .retractedInputRises => Sys2Proof.Machine.execRetractedInputRises s
  | .removalTimerExpiry => Sys2Proof.Machine.execRemovalTimerExpiry s
  | .eventOccurrence kind detail => Sys2Proof.Machine.execEventOccurrence kind detail s
  | .hostByte b => Sys2Proof.Machine.execHostByte b s
  | .rxByteTimerExpiry => Sys2Proof.Machine.execRxByteTimerExpiry s
  | .hostReadyChange level => Sys2Proof.Machine.execHostReadyChange level s
  | .transmitFrameEnd => Sys2Proof.Machine.execTransmitFrameEnd s
  | .streamPeriodExpiry => Sys2Proof.Machine.execStreamPeriodExpiry s

end Sys2Proof.Machine
end

