-- ==== Sys2Proof/WellFormed.lean ====
section
/-! DEFINITION. Which commands could be sent: the operands fit the layouts of spec/11, section 11.6. -/

namespace Sys2Proof

/-- An ID field has exactly sixteen character places. -/
def RawId.wf (id : RawId) : Bool := id.places.length = 16

/-- The body of the request is one the directory lays out: its ID fields have sixteen places, its records agree with the
counts they carry, and it is at most 240 bytes long. -/
def Request.wf : Request → Bool
  | .defineFrame (some d) => d.agrees
  | .loadProgram _ (some p) => p.agrees
  | .addSpecimen r => r.id.wf
  | .dropSpecimen id => id.wf
  | .readResult (some id) => id.wf
  | .deleteResult id => id.wf
  | _ => true

/-- A command that could be sent: a request whose body the link can carry, an UNKNOWN_KIND whose KIND names no request and
whose body fits a frame; every other command can always come. -/
def Instr.wf : Instr → Bool
  | .defineFrame _ d => decide (d.points.length ≤ 26)
  | .loadProgram _ _ p => decide (p.stages.length ≤ 12)
  | .addSpecimen _ r => r.id.wf
  | .dropSpecimen _ id => id.wf
  | .readResult _ (some id) => id.wf
  | .deleteResult _ id => id.wf
  | .unknownKind kind _ body => readRequest kind body = .unknownKind ∧ body.length ≤ 240
  | _ => true

end Sys2Proof
end

