-- ==== Sys2Proof/Safety.lean ====
section
/-! DEFINITION. The terms in which the claims are stated: the reply a request is answered with, and the invariants that the
rules of the spec promise of every state. -/

namespace Sys2Proof.Machine

/-! ### Replies -/

/-- The state in which the reply of this KIND and TAG has joined the reply queue and the arbiter has looked at the
transmitter (R194, R195). -/
def State.replying (s : State) (kind tag : Byte) (status : Status) (detail : Byte) (data : List Byte) : State :=
  (s.onLink fun l =>
    { l with replies := l.replies ++ [{ kind := kind, tag := tag, body := [status.code, detail] ++ data }] }).transmit

/-! ### Codes and event records -/

/-- The code of a value, in a list that gives the values in the order of their codes (section 11.6). -/
def codeIn {α : Type} [DecidableEq α] (table : List α) (x : α) : Byte := BitVec.ofNat 8 (table.idxOf x)

/-- The record of a kind after one more occurrence of it: a fresh record, or the record that stood with its count raised
(R178, R179). -/
def Events.oneMore (e : Events) (k : EventKind) (time detail : Word32) (cls : EventClass) : Occurred :=
  match e.record k with
  | some r => { r with count := min 255 (r.count + 1) }
  | none => { count := 1, time := time, detail := detail, cls := cls }

/-! ### Runs -/

/-- Commands executed one after another, stopping at the first fault or refusal. -/
def runAll : List Instr → State → Host.Outcome State Fault Refusal
  | [], s => .next s
  | c :: rest, s =>
    match exec c s with
    | .next t => runAll rest t
    | .fault r => .fault r
    | .refused r => .refused r

/-- The command by which the host's request frame arrives, its fields taken from the frame (section 11.6). -/
def requestCommand (tag : Byte) : Request → Option Instr
  | .defineFrame d => d.map fun d => .defineFrame tag d
  | .commitFrame => some (.commitFrame tag)
  | .setLoop channel kp ki kf => some (.setLoop tag channel kp ki kf)
  | .driveOn => some (.driveOn tag)
  | .driveOff => some (.driveOff tag)
  | .clearFault => some (.clearFault tag)
  | .jog speed => some (.jog tag speed)
  | .moveTo target speed => some (.moveTo tag target speed)
  | .stopMove => some (.stopMove tag)
  | .setPosition value => some (.setPosition tag value)
  | .setOverride percent => some (.setOverride tag percent)
  | .tare => some (.tare tag)
  | .setFilter n => some (.setFilter tag n)
  | .zeroExt gauge => some (.zeroExt tag gauge)
  | .loadProgram slot program => program.map fun p => .loadProgram tag slot p
  | .addSpecimen r => some (.addSpecimen tag r)
  | .dropSpecimen id => some (.dropSpecimen tag id)
  | .readQueue first => some (.readQueue tag first)
  | .testStart => some (.testStart tag)
  | .abortTest => some (.abortTest tag)
  | .holdTest => some (.holdTest tag)
  | .clearHold causes => some (.clearHold tag causes)
  | .resumeTest => some (.resumeTest tag)
  | .setWatch index w => some (.setWatch tag index w)
  | .readResult id => some (.readResult tag id)
  | .deleteResult id => some (.deleteResult tag id)
  | .setReporting kinds => some (.setReporting tag kinds)
  | .setSeverity kind severity => some (.setSeverity tag kind severity)
  | .readEvents => some (.readEvents tag)
  | .clearEvents kinds => some (.clearEvents tag kinds)
  | .injectEvent kind => some (.injectEvent tag kind)
  | .setStream period idle => some (.setStream tag period idle)
  | .streamOn => some (.streamOn tag)
  | .streamOff => some (.streamOff tag)
  | .getStatus group => some (.getStatus tag group)
  | .describe => some (.describe tag)
  | .reset => some (.reset tag)

/-! ### The host's bytes at the receiver -/

/-- What the receiver makes of bytes taken one after another, rule R192 as a relation: a hunting receiver passes over every byte
but START; an assembly takes each byte with its timer restarted; a whole frame with a good check is placed in a free slot and
the waiting requests are executed; and a discard (1 LENGTH, 3 CRC, 4 OVERFLOW) raises LINK_RX_ERROR, after which the bytes of
the assembly are taken again before those that follow. -/
inductive TakesBytes : State → List Byte → State → Prop where
  | done (s : State) : TakesBytes s [] s
  | passed {s t : State} {b : Byte} {rest : List Byte} : s.link.rx = none → b ≠ 0xA5 → TakesBytes s rest t →
      TakesBytes s (b :: rest) t
  | start {s t : State} {rest : List Byte} : s.link.rx = none →
      TakesBytes { s with link := { s.link with rx := some [], rxTimer := some 5 } } rest t → TakesBytes s (0xA5 :: rest) t
  | added {s t : State} {got : List Byte} {b : Byte} {rest : List Byte} : s.link.rx = some got →
      assemblyOf (got ++ [b]) = .more →
      TakesBytes { s with link := { s.link with rx := some (got ++ [b]), rxTimer := some 5 } } rest t →
      TakesBytes s (b :: rest) t
  | placed {s t : State} {got : List Byte} {b : Byte} {rest : List Byte} {f : RequestFrame} : s.link.rx = some got →
      assemblyOf (got ++ [b]) = .good f → s.link.slots.length < 2 →
      TakesBytes ((({ s with link := { s.link with rx := none, rxTimer := none } } : State).placed f).service 3) rest t →
      TakesBytes s (b :: rest) t
  | discarded {s t : State} {got : List Byte} {b : Byte} {rest : List Byte} {reason : Nat} : s.link.rx = some got →
      (assemblyOf (got ++ [b]) = .bad reason ∨
        (∃ f, assemblyOf (got ++ [b]) = .good f) ∧ 2 ≤ s.link.slots.length ∧ reason = 4) →
      TakesBytes (({ s with link := { s.link with rx := none, rxTimer := none } } : State).record .linkRxError
        (BitVec.ofNat 32 reason) .warning) (got ++ b :: rest) t →
      TakesBytes s (b :: rest) t

/-! ### Invariants -/

/-- The capacities of the link and of the collections (R193, R194, R199, R81, R141). -/
structure State.WithinCapacity (s : State) : Prop where
  slots : s.link.slots.length ≤ 2
  replies : s.link.replies.length ≤ 2
  stream : s.link.streamQueue.length ≤ 64
  samples : s.ext.fifo.length ≤ 4
  specimens : s.recs.queue.length ≤ 8

/-- The frame is UNDEFINED while the definition is open (R3, R5), and a move record exists only in MOVING and RETURNING
(section 1.8). -/
structure State.FrameInOrder (s : State) : Prop where
  opened : s.frame.status = .opened → s.frame.state = .undefined
  moves : s.frame.move.isSome = true → s.frame.state = .moving ∨ s.frame.state = .returning

/-- The frame is never TESTING while the hold-cause set is not empty, and the set is empty whenever no test is in progress
(R133). -/
structure State.HoldInOrder (s : State) : Prop where
  frame : s.FrameInOrder
  held : s.hold.causes ≠ HoldCauses.empty → s.frame.state = .held

/-- The test in progress record and the running copy exist exactly while a test is in progress, the result list keeps a place
for its result (R148, R150), and an ID appears at most once across queue, test and results (R142). -/
structure State.RecordsInOrder (s : State) : Prop where
  frame : s.FrameInOrder
  test : s.recs.test.isSome = s.inTest
  copy : s.seq.running.isSome = s.inTest
  room : s.recs.results.length + (if s.inTest then 1 else 0) ≤ 8
  ids : (s.recs.queue.map (·.id) ++ s.recs.test.toList.map (·.specimen.id) ++ s.recs.results.map (·.id)).Nodup

/-- The event transmit queue holds at most one frame per kind, each of a pending kind, and a pending kind's count is 1 to
255 (R178, R180). -/
structure State.EventsInOrder (s : State) : Prop where
  once : s.link.eventQueue.Nodup
  pending : ∀ k ∈ s.link.eventQueue, (s.events.record k).isSome = true
  counts : ∀ k r, s.events.record k = some r → 1 ≤ r.count ∧ r.count ≤ 255

/-- The order of the yield values: the lower yield lies below the upper yield, the offset yield is at most Fmax (R168, R170);
in ELASTIC there is no lower yield yet. -/
structure Evaluation.InOrder (e : Evaluation) : Prop where
  elastic : e.phase = .elastic → e.reL = none
  lower : ∀ l, e.reL = some l → ∃ h, e.reH = some h ∧ l < h
  offset : ∀ r, e.rp = some r → ∃ m, e.fmax = some m ∧ r ≤ m

end Sys2Proof.Machine
end

