-- ==== Sys2Proof/Certificates/Slice0/Obligations.lean ====
section
/-! DEFINITION. The statements for the provers. A request's statement gives its outcome for every state in which the request's
frame finds the slots empty and a place for its reply (`State.free`); what happens to one that has to wait or is discarded
is said by statements of its own. That a request's command is the arrival of its good frame is the model's reading (log 11).
`transmit` in a result is the arbiter's look at the transmitter at the end of a command (R195, log 12). -/

open Sys2Proof Sys2Proof.Machine

/-! ### The queue of commands and power-on -/

/-- The model's form of a step (log 1): the front command is executed with the queue's rest; an empty queue idles. -/
def Obligations.StepTakesTheFrontCommand : Prop :=
  (∀ (c : Instr) (rest : List Instr) (s : State), s.pending = c :: rest → step s = exec c { s with pending := rest }) ∧
    ∀ s : State, s.pending = [] → step s = .next s

/-- R24, R49, R68, R84, R105, R107, R122, R124, R125, R139, R156, R176, R177, R178, R185, R196, R203 and R16: what
power-on leaves, for every level of the input lines (sampled as log 2 says; the waiting commands stay, log 1). The model's own
choices among these values are the clear mark of a gated update and the stored test time of 0 (log 29), and the order E-stop,
upper, lower in which asserted inputs are raised, which gives the detail of LIMIT_SWITCH with both switches asserted (log 28;
the second occurrence is coalesced, R179). A host that is ready is sent the first event frame at once (log 12). -/
def Obligations.PowerOnLeavesTheResetValues : Prop :=
  ∀ (levels : Inputs) (s : State),
    let raised : List EventKind := (if levels.estop then [.estop] else []) ++
      (if levels.upper || levels.lower then [.limitSwitch] else [])
    ∃ t, exec (.powerOn levels) s = .next t ∧
    t.inputs = levels ∧ t.pending = s.pending ∧ t.clock = 0 ∧
    (t.frame.state = .undefined ∧ t.frame.status = .opened ∧ t.frame.driveTimer = none ∧ t.frame.move = none ∧
      t.frame.offset = 0 ∧ t.frame.firstCause = none ∧ t.frame.causeSet = [] ∧ t.frame.gateActed = false ∧
      t.frame.defn = { capacity := 0, vmax := 0, travelMin := 0, travelMax := 0, nmPerCount := 0, compliance := 0,
                       points := [] } ∧
      t.frame.gainsPosition = { kp := 131072, ki := 0, kf := 65536 } ∧
      t.frame.gainsForce = { kp := 0, ki := 0, kf := 0 } ∧ t.frame.gainsStrain = { kp := 0, ki := 0, kf := 0 }) ∧
    (t.servo.channel = .position ∧ t.servo.sp = 0 ∧ t.servo.q = 0 ∧ t.servo.iAcc = 0 ∧ t.servo.uLast = 0 ∧
      t.servo.dac = 0 ∧ t.servo.override = 100 ∧ t.servo.entry = false ∧ t.servo.startPos = 0 ∧ t.servo.startTime = 0 ∧
      t.servo.testTime = 0 ∧
      t.servo.latest.isTest = false ∧ t.servo.latest.time = 0 ∧ t.servo.latest.p = 0 ∧ t.servo.latest.f = 0 ∧
      t.servo.latest.eps = 0 ∧ t.servo.latest.stage = none ∧ t.servo.latest.testTime = 0 ∧ t.servo.latest.d = 0 ∧
      t.servo.latest.held = false ∧
      t.servo.reported = { channel := .position, sp := 0, q := 0, uLast := 0, override := 100 }) ∧
    t.force = { raw := 0, overRange := false, fLin := 0, tare := 0, filterLength := 4, window := [], filtered := 0,
                previous := 0, overload := false, peak := 0, armed := false, breakFlag := false, capture := none } ∧
    t.ext = { state := if levels.presence then .hunt else .inhibited, place := 0, body := [], timer := none,
              seqRef := none, badCount := 0, pendingDrop := 0, fifo := [], latest := none } ∧
    (t.strain.state = .absent ∧ t.strain.heldMean = 0 ∧ t.strain.starvation = 65535 ∧ t.strain.zero = none ∧
      t.strain.gauge = none ∧ t.strain.parallel = 10000 ∧ t.strain.k = 0 ∧ t.strain.pendingSwitch = none ∧
      t.strain.timer = none ∧ t.strain.ofTest = false ∧ t.strain.gapCount = 0 ∧ t.strain.badCount = 0 ∧
      t.strain.switchCount = 0 ∧ t.strain.removalStrain = none) ∧
    (t.seq.slots = Vector.replicate 4 none ∧ t.seq.running = none ∧ t.seq.stage = none ∧ t.seq.timer = .stopped ∧
      t.seq.timeMark = false ∧ t.seq.yieldMark = false ∧ t.seq.fmaxMark = false ∧ t.seq.markerMode = .off ∧
      t.seq.marker = false) ∧
    t.watches = Vector.replicate 5 { enabled := false, quantity := .force, level := 0, direction := .rising,
                                     action := .notify, rearm := .once, hysteresis := 0, state := .armed,
                                     previous := none } ∧
    (t.hold.causes.code = 0 ∧ t.hold.count = 0) ∧ t.recs = { queue := [], test := none, results := [] } ∧
    t.eval = { phase := .ended, fLo := 0, fHi := 0, n := 0, sumE := 0, sumF := 0, sumEE := 0, sumEF := 0, overflow := false,
               fit := .opened, slope := none, intercept := none, modulus := none, energy := 0, prevD := 0, fmax := none,
               agt := none, tracking := none, reH := none, epsReH := none, guardEnd := none, reL := none,
               plateau := .notStarted, ae := none, rp := none, path := .none } ∧
    t.points = { sequencer := [], watch := [], evaluation := [], removal := [] } ∧ t.mail = [] ∧
    (∀ k, (t.events.record k).isSome =
      (decide (k = .estop) && levels.estop || decide (k = .limitSwitch) && (levels.upper || levels.lower))) ∧
    (levels.estop = true →
      t.events.record .estop = some { count := 1, time := 0, detail := 0, cls := .frameFault }) ∧
    (levels.upper = true ∨ levels.lower = true → t.events.record .limitSwitch =
      some { count := if levels.upper && levels.lower then 2 else 1, time := 0, detail := if levels.upper then 1 else 2,
             cls := .frameFault }) ∧
    (t.link.eventQueue = (if levels.hostReady then raised.drop 1 else raised) ∧
      t.link.tx = (if levels.hostReady then raised.head?.map t.events.frameOf else none)) ∧
    t.events.enabled = 2147475456 ∧
    t.events.severities =
      { extGap := .warning, extLost := .warning, extRemovalTimeout := .warning, travelLimit := .testFault } ∧
    (t.link.rx = none ∧ t.link.rxTimer = none ∧ t.link.slots = [] ∧ t.link.replies = [] ∧ t.link.streamQueue = []) ∧
    t.stream = { on := false, period := 10, pendingPeriod := none, idle := false, timer := none, pendingLoss := 0,
                 made := 0, dropped := 0 }

/-! ### The frame definition and the gains -/

/-- R3: LOCKED once committed; stored as sent where the body agrees with its point count; BAD_LENGTH otherwise. That LOCKED comes
before BAD_LENGTH is the model's choice (log 14), after the line 'DEFINE_FRAME (any body)' of the worked sequence of
section 1.2. -/
def Obligations.DefineFrameStoresTheBodyAsSent : Prop :=
  ∀ (s : State) (tag : Byte) (d : RawDefinition), s.free →
    exec (.defineFrame tag d) s = .next (
      if s.frame.status = .committed then s.replying 0x81 tag .locked 0 []
      else if d.points.length = d.count.toNat ∧ d.count.toNat ≤ 9 then
        ({ s with frame := { s.frame with
            defn := { capacity := d.capacity.toInt, vmax := d.vmax.toInt, travelMin := d.travelMin.toInt,
                      travelMax := d.travelMax.toInt, nmPerCount := d.nmPerCount.toInt,
                      compliance := d.compliance.toInt,
                      points := d.points.map fun x => { raw := x.raw.toInt, force := x.force.toInt } } } } :
          State).replying 0x81 tag .ok 0 []
      else s.replying 0x81 tag .badLength 0 [])

/-- R4 and the table of section 1.2: the commit check passes exactly where the field of every index lies in its range, and
names the lowest index whose field does not. -/
def Obligations.CommitChecksTheFieldsInOrder : Prop :=
  ∀ d : FrameDefinition,
    let ok (i : Nat) : Prop := match i with
      | 0 => True
      | 1 => 1000 ≤ d.capacity ∧ d.capacity ≤ 2000000
      | 2 => 1 ≤ d.vmax ∧ d.vmax ≤ 30000
      | 3 => -100000 ≤ d.travelMin ∧ d.travelMin ≤ 1500000
      | 4 => -100000 ≤ d.travelMax ∧ d.travelMax ≤ 1500000 ∧ d.travelMin + 10000 ≤ d.travelMax
      | 5 => 1 ≤ d.nmPerCount ∧ d.nmPerCount ≤ 10000
      | 6 => 0 ≤ d.compliance ∧ d.compliance ≤ 100000
      | 7 => 2 ≤ d.points.length ∧ d.points.length ≤ 9
      | n + 8 => ∀ x, d.points[n]? = some x → -8388608 ≤ x.raw ∧ x.raw ≤ 8388607 ∧
          ∀ m y, n = m + 1 → d.points[m]? = some y → y.raw < x.raw
    (firstFailing d.checks = none ↔ ∀ i, ok i) ∧
      ∀ i, firstFailing d.checks = some i ↔ ¬ok i ∧ ∀ j, j < i → ok j

/-- R4, R5, R15 and R53: COMMIT_FRAME. -/
def Obligations.CommitFramePutsTheDefinitionInUse : Prop :=
  ∀ (s : State) (tag : Byte), s.free →
    exec (.commitFrame tag) s = .next (
      if s.frame.status = .committed then s.replying 0x82 tag .locked 0 []
      else match firstFailing s.frame.defn.checks with
        | some index => s.replying 0x82 tag .badValue (BitVec.ofNat 8 index) []
        | none =>
          ({ s with
              frame := { s.frame with
                status := .committed
                state := if s.inputs.estop ∨ s.inputs.upper ∨ s.inputs.lower then .faulted else .driveOff
                firstCause :=
                  if s.inputs.estop then some { kind := .estop, detail := 0, time := s.clock }
                  else if s.inputs.upper then some { kind := .limitSwitch, detail := 1, time := s.clock }
                  else if s.inputs.lower then some { kind := .limitSwitch, detail := 2, time := s.clock } else none
                causeSet := (if s.inputs.estop then [.estop] else []) ++
                  (if s.inputs.upper ∨ s.inputs.lower then [.limitSwitch] else []) }
              force := { s.force with window := [] } } : State).replying 0x82 tag .ok 0 [])

/-- R8: SET_LOOP. That the frame state is checked before the channel and the gains is the model's choice (log 13). -/
def Obligations.SetLoopSetsTheGainsOfOneChannel : Prop :=
  ∀ (s : State) (tag channel : Byte) (kp ki kf : Word32), s.free →
    let g : Gains := { kp := kp.toNat, ki := ki.toNat, kf := kf.toNat }
    exec (.setLoop tag channel kp ki kf) s = .next (
      if s.frame.state = .testing ∨ s.frame.state = .held ∨ s.frame.state = .returning then
        s.replying 0x83 tag .wrongState 0 []
      else if 2 < channel.toNat then s.replying 0x83 tag .badValue 1 []
      else if 2147483647 < kp.toNat then s.replying 0x83 tag .badValue 2 []
      else if 2147483647 < ki.toNat then s.replying 0x83 tag .badValue 3 []
      else if 2147483647 < kf.toNat then s.replying 0x83 tag .badValue 4 []
      else ({ s with frame := { s.frame with
                gainsPosition := if channel = 0 then g else s.frame.gainsPosition
                gainsForce := if channel = 1 then g else s.frame.gainsForce
                gainsStrain := if channel = 2 then g else s.frame.gainsStrain } } : State).replying 0x83 tag .ok 0 [])

/-! ### Enabling the drive, faults, cabinet inputs -/

/-- R1, R9, R10, R13 and R17: DRIVE_ON, with drive ready already seen or not, DRIVE_OFF and CLEAR_FAULT; the frame states in which
the drive enable output is asserted, and the demand of 0 at every servo update made while it is released. That DRIVE_ON leaves the
setpoint and the integrator alone where no tracking update came before it is the model's choice (log 47). -/
def Obligations.DriveOnDriveOffAndClearFault : Prop :=
  (∀ x : FrameState, x.driveEnable = true ↔
    x = .enabling ∨ x = .ready ∨ x = .moving ∨ x = .testing ∨ x = .held ∨ x = .returning) ∧
  (∀ (s : State) (encoder : Word32) (still : Bool), s.frame.state.driveEnable = false →
    ∃ t, exec (.servoUpdate encoder still) s = .next t ∧ t.frame.state = s.frame.state ∧ t.servo.uLast = 0 ∧
      t.servo.dac = 0) ∧
  (∀ (s : State) (tag : Byte), s.free →
    exec (.driveOn tag) s = .next (
      if s.frame.state = .driveOff then
        if s.inputs.driveReady = true ∧ s.inputs.driveFault = false then
          (({ s with frame := { s.frame with state := .ready, driveTimer := none } } : State).record .driveReady 0
            .info).replying 0x84 tag .ok 0 []
        else ({ s with frame := { s.frame with state := .enabling, driveTimer := some 500 } } : State).replying 0x84 tag
          .ok 0 []
      else s.replying 0x84 tag .wrongState 0 [])) ∧
  (∀ (s : State) (tag : Byte), s.free →
    exec (.driveOff tag) s = .next (
      if s.frame.state = .enabling ∨ s.frame.state = .ready ∨ s.frame.state = .moving ∨ s.frame.state = .returning then
        ({ s with frame := { s.frame with state := .driveOff, driveTimer := none, move := none } } : State).replying
          0x85 tag .ok 0 []
      else if s.frame.state = .driveOff then s.replying 0x85 tag .ok 0 []
      else s.replying 0x85 tag .wrongState 0 [])) ∧
  ∀ (s : State) (tag : Byte), s.free →
    exec (.clearFault tag) s = .next (
      if s.frame.state ≠ .faulted then s.replying 0x86 tag .wrongState 0 []
      else if s.inputs.estop then s.replying 0x86 tag .causePending 1 []
      else if s.inputs.upper then s.replying 0x86 tag .causePending 2 []
      else if s.inputs.lower then s.replying 0x86 tag .causePending 3 []
      else ({ s with frame := { s.frame with state := .driveOff, firstCause := none, causeSet := [] } } : State).replying
        0x86 tag .ok 0 [])

/-- R10, R11, R12 and R16: the drive's lines, the drive-enable timer, and the cabinet's inputs: an input that becomes asserted
raises its event, its release raises none. That drive ready seen leaves the setpoint and the integrator alone where no tracking
update came before it is the model's choice (log 47). -/
def Obligations.DriveLinesAndCabinetInputsAct : Prop :=
  (∀ s : State, s.frame.state = .enabling →
    exec .driveReadySeen s = .next (({ s with
      inputs := { s.inputs with driveReady := true, driveFault := false },
      frame := { s.frame with state := .ready, driveTimer := none } } : State).record .driveReady 0 .info).transmit) ∧
  (∀ s : State, s.frame.state ≠ .enabling →
    exec .driveReadySeen s =
      .next ({ s with inputs := { s.inputs with driveReady := true, driveFault := false } } : State).transmit) ∧
  (∀ s : State, s.frame.state = .enabling →
    exec .driveEnableTimerExpiry s = .next (({ s.record .driveTimeout 0 .frameFault with
      frame := { s.frame with
        state := .faulted, driveTimer := none, move := none,
        firstCause := some { kind := .driveTimeout, detail := 0, time := s.clock }, causeSet := [.driveTimeout] } } :
        State).transmit)) ∧
  (∀ s : State, s.frame.state ≠ .enabling → exec .driveEnableTimerExpiry s = .next s.transmit) ∧
  (∀ (cause : DriveCease) (s : State),
    let s1 : State := { s with inputs := match cause with
      | .readyDropped => { s.inputs with driveReady := false }
      | .faultAsserted => { s.inputs with driveFault := true } }
    exec (.driveReadyCeases cause) s = .next (
      if s.frame.state = .ready ∨ s.frame.state = .moving ∨ s.frame.state = .testing ∨ s.frame.state = .held ∨
          s.frame.state = .returning then
        (s1.raise .driveLost (match cause with | .readyDropped => 1 | .faultAsserted => 2)).transmit
      else s1.transmit)) ∧
  (∀ s : State, s.inputs.estop = false →
    exec (.cabinetInputAsserted .estop) s =
      .next (({ s with inputs := { s.inputs with estop := true } } : State).raise .estop 0).transmit) ∧
  (∀ s : State, s.inputs.upper = false →
    exec (.cabinetInputAsserted .upperLimit) s =
      .next (({ s with inputs := { s.inputs with upper := true } } : State).raise .limitSwitch 1).transmit) ∧
  (∀ s : State, s.inputs.lower = false →
    exec (.cabinetInputAsserted .lowerLimit) s =
      .next (({ s with inputs := { s.inputs with lower := true } } : State).raise .limitSwitch 2).transmit) ∧
  (∀ (x : CabinetInput) (s : State), s.inputs.cabinet x = true →
    exec (.cabinetInputAsserted x) s = .next s.transmit) ∧
  ∀ (x : CabinetInput) (s : State), exec (.cabinetInputReleased x) s = .next ({ s with inputs := match x with
      | .estop => { s.inputs with estop := false }
      | .upperLimit => { s.inputs with upper := false }
      | .lowerLimit => { s.inputs with lower := false } } : State).transmit

/-! ### Positioning -/

/-- R19 and R20: JOG and MOVE_TO start ramps limited to vmax; a MOVE_TO speed below 1 is refused whatever its sign (log 25).
That a MOVE_TO taken between the end of a test and its entry update signs its ramp from the setpoint as it then stands, in the
units of the ended stage's channel, is the model's choice (log 20). -/
def Obligations.JogAndMoveToStartClampedRamps : Prop :=
  (∀ (s : State) (tag : Byte) (speed : Word32), s.free →
    let used := if speed.toInt < -s.frame.defn.vmax then -s.frame.defn.vmax
      else if s.frame.defn.vmax < speed.toInt then s.frame.defn.vmax else speed.toInt
    exec (.jog tag speed) s = .next (
      if ¬(s.frame.state = .ready ∨ s.frame.state = .moving) then s.replying 0x87 tag .wrongState 0 []
      else if speed = 0 then
        if s.frame.state = .moving then
          ({ s with frame := { s.frame with state := .ready, move := none },
                    servo := { s.servo with sp := s.servo.latest.p, q := 0 } } : State).replying 0x87 tag .ok 0
            [0, 0, 0, 0]
        else s.replying 0x87 tag .ok 0 [0, 0, 0, 0]
      else
        ({ s with frame := { s.frame with
            state := .moving
            move := some { kind := .jog, target := none, rate := used, reached := false, settle := none } } } :
          State).replying 0x87 tag (if used = speed.toInt then .ok else .clamped) 0 (bytes32 (signed32 used)))) ∧
  ∀ (s : State) (tag : Byte) (target speed : Word32), s.free → 0 ≤ s.frame.defn.vmax →
    let used := if s.frame.defn.vmax < speed.toInt then s.frame.defn.vmax else speed.toInt
    exec (.moveTo tag target speed) s = .next (
      if ¬(s.frame.state = .ready ∨ s.frame.state = .moving) then s.replying 0x88 tag .wrongState 0 []
      else if target.toInt < s.frame.defn.travelMin ∨ s.frame.defn.travelMax < target.toInt then
        s.replying 0x88 tag .badValue 1 []
      else if speed.toInt < 1 then s.replying 0x88 tag .badValue 2 []
      else
        ({ s with frame := { s.frame with
            state := .moving
            move := some { kind := .moveTo, target := some target.toInt, reached := false, settle := none,
                           rate := if s.servo.sp < target.toInt then used
                             else if target.toInt < s.servo.sp then -used else 0 } } } :
          State).replying 0x88 tag (if used = speed.toInt then .ok else .clamped) 0 (bytes32 (signed32 used)))

/-- R22 and R7: STOP_MOVE and SET_POSITION. -/
def Obligations.StopMoveAndSetPosition : Prop :=
  (∀ (s : State) (tag : Byte), s.free →
    exec (.stopMove tag) s = .next (
      if s.frame.state = .moving ∨ s.frame.state = .returning then
        ({ s with frame := { s.frame with state := .ready, move := none },
                  servo := { s.servo with sp := s.servo.latest.p, q := 0 } } : State).replying 0x89 tag .ok 0 []
      else if s.frame.state = .ready then s.replying 0x89 tag .ok 0 []
      else s.replying 0x89 tag .wrongState 0 [])) ∧
  ∀ (s : State) (tag : Byte) (value : Word32), s.free →
    exec (.setPosition tag value) s = .next (
      if s.frame.state = .driveOff then
        ({ s with frame := { s.frame with offset := s.frame.offset + (value.toInt - s.servo.latest.p) } } :
          State).replying 0x8A tag .ok 0 []
      else if s.frame.state = .ready then
        ({ s with frame := { s.frame with offset := s.frame.offset + (value.toInt - s.servo.latest.p) },
                  servo := { s.servo with sp := s.servo.sp + (value.toInt - s.servo.latest.p) } } :
          State).replying 0x8A tag .ok 0 []
      else s.replying 0x8A tag .wrongState 0 [])

/-- R18, R21, R23 and R114: what the frame supervisor does at a servo update (the update that reaches the target may complete the
move too, log 19), and the expiry of the settle timer and of the stage timer. That a JOG toward a limit already reached goes on
while the gating does not act is the model's choice (log 46). The update calls `State.supervise` with its
position and the travel limit its gating acts at (ServoUpdateMakesItsStepsInOrder). -/
def Obligations.MovesEndAndTimersExpire : Prop :=
  (∀ (s : State) (p : Int) (gate : Gate) (m : Move), s.frame.state = .moving ∨ s.frame.state = .returning →
    s.frame.move = some m →
    let seen : Move := if m.target = some s.servo.sp ∧ m.reached = false then { m with reached := true, settle := some 5000 }
      else m
    let ready : State := { s with frame := { s.frame with state := .ready, move := none } }
    let stopped : State := { ready with servo := { s.servo with sp := p, q := 0 } }
    let near : Prop := ∃ goal ∈ m.target, (p - goal).natAbs ≤ 50
    (∀ goal, m.target = some goal → seen.reached = true → near →
      s.supervise p gate =
        if m.kind = .returning then ready.record .returnDone (signed32 (p - goal)) .info else ready) ∧
    (¬(seen.reached = true ∧ near) → gate = .none →
      s.supervise p gate = { s with frame := { s.frame with move := some seen } }) ∧
    (¬(seen.reached = true ∧ near) → gate ≠ .none → ¬(m.kind = .returning ∧ m.target.isSome = true) →
      s.supervise p gate = stopped) ∧
    ∀ goal, ¬(seen.reached = true ∧ near) → gate ≠ .none → m.kind = .returning → m.target = some goal →
      s.supervise p gate = stopped.record .moveIncomplete (signed32 (p - goal)) .warning) ∧
  (∀ (s : State) (p : Int) (gate : Gate), s.frame.state = .testing ∨ s.frame.state = .held →
    let marked : State := { s with frame := { s.frame with gateActed := decide (gate ≠ .none) } }
    let limit : Word32 := if gate = .travelMax then 1 else 2
    (gate = .none ∨ s.frame.gateActed = true → s.supervise p gate = marked) ∧
    (gate ≠ .none → s.frame.gateActed = false → s.events.severities.travelLimit = .warning →
      s.supervise p gate = marked.record .travelLimit limit .warning) ∧
    (gate ≠ .none → s.frame.gateActed = false → s.events.severities.travelLimit = .testFault →
      s.supervise p gate = (marked.record .travelLimit limit .testFault).endTest .testFault 23)) ∧
  (∀ (s : State) (p : Int) (gate : Gate),
    s.frame.state = .ready ∨ s.frame.state = .undefined ∨ s.frame.state = .driveOff ∨ s.frame.state = .enabling ∨
      s.frame.state = .faulted → s.supervise p gate = s) ∧
  (∀ (s : State) (m : Move) (left : Nat) (goal : Int),
    s.frame.move = some m → m.settle = some left → m.target = some goal →
      exec .settleTimerExpiry s = .next ((({ s with frame := { s.frame with state := .ready, move := none } } :
        State).record .moveIncomplete (signed32 (s.servo.latest.p - goal)) .warning).transmit)) ∧
  (∀ s : State, (∀ m left goal, s.frame.move = some m → m.settle = some left → m.target ≠ some goal) →
    exec .settleTimerExpiry s = .next s.transmit) ∧
  (∀ (s : State) (left : Nat), s.seq.timer = .running left →
    exec .stageTimerExpiry s =
      .next ({ s with seq := { s.seq with timer := .stopped, timeMark := true } } : State).transmit) ∧
  ∀ s : State, (∀ left, s.seq.timer ≠ .running left) → exec .stageTimerExpiry s = .next s.transmit

/-! ### Override, tare, filter, zero -/

/-- R31, R55, R56, R59 and R89: SET_OVERRIDE in a test (its reply's value is log 40); TARE, SET_FILTER (its value is checked
first, log 13) and ZERO_EXT outside one. -/
def Obligations.OverrideTareFilterAndZero : Prop :=
  (∀ (s : State) (tag : Byte) (percent : BitVec 16), s.free →
    let used := if percent.toNat < 10 then 10 else if 200 < percent.toNat then 200 else percent.toNat
    exec (.setOverride tag percent) s = .next (
      if s.frame.state = .testing ∨ s.frame.state = .held then
        ({ s with servo := { s.servo with override := used } } : State).replying 0x8B tag
          (if percent.toNat < 10 ∨ 200 < percent.toNat then .clamped else .ok) 0 [BitVec.ofNat 8 used, 0]
      else s.replying 0x8B tag .wrongState 0 [])) ∧
  ((∀ (s : State) (tag : Byte), s.free →
    let window := s.force.window.map fun x => x - (s.force.fLin - s.force.tare)
    exec (.tare tag) s = .next (
      if s.frame.state = .testing ∨ s.frame.state = .held then s.replying 0x8C tag .wrongState 0 []
      else if s.force.window = [] then
        ({ s with force := { s.force with tare := s.force.fLin } } : State).replying 0x8C tag .ok 0
          (bytes32 (signed32 s.force.fLin))
      else
        ({ s with force := { s.force with tare := s.force.fLin, window := window, filtered := meanOf window,
                                          previous := meanOf window } } : State).replying 0x8C tag .ok 0
          (bytes32 (signed32 s.force.fLin)))) ∧
  ∀ (s : State) (tag n : Byte), s.free →
    exec (.setFilter tag n) s = .next (
      if ¬(n = 1 ∨ n = 2 ∨ n = 4 ∨ n = 8 ∨ n = 16) then s.replying 0x8D tag .badValue 1 []
      else if s.frame.state = .testing ∨ s.frame.state = .held then s.replying 0x8D tag .wrongState 0 []
      else ({ s with force := { s.force with filterLength := n.toNat, window := [] } } : State).replying 0x8D tag .ok 0 [])) ∧
  ∀ (s : State) (tag : Byte) (gauge : Word32), s.free →
    exec (.zeroExt tag gauge) s = .next (
      if s.frame.state = .testing ∨ s.frame.state = .held then s.replying 0x8E tag .wrongState 1 []
      else if ¬(s.strain.state = .fitted ∨ s.strain.state = .zeroed) then s.replying 0x8E tag .wrongState 2 []
      else if 20 ≤ s.strain.starvation then s.replying 0x8E tag .wrongState 3 []
      else if gauge.toNat < 5000 ∨ 200000 < gauge.toNat then s.replying 0x8E tag .badValue 1 []
      else ({ s with strain := { s.strain with state := .zeroed, zero := some s.strain.heldMean,
                                               gauge := some (gauge.toNat : Int) } } : State).replying 0x8E tag .ok 0
        (bytes32 (signed32 s.strain.heldMean)))

/-! ### Programs and watches -/

/-- R108: LOAD_PROGRAM, its checks in their order. -/
def Obligations.LoadProgramReplacesOneSlot : Prop :=
  ∀ (s : State) (tag slot : Byte) (p : RawProgram), s.free →
    exec (.loadProgram tag slot p) s = .next (
      if 3 < slot.toNat then s.replying 0x90 tag .badValue 0 []
      else if (s.frame.state = .testing ∨ s.frame.state = .held) ∧ s.seq.running.map (·.slot) = some slot.toNat then
        s.replying 0x90 tag .busy 0 []
      else if ¬(p.stages.length = p.stageCount.toNat ∧ p.stageCount.toNat ≤ 12) then
        s.replying 0x90 tag .badLength 0 []
      else match firstFailing (programChecks p) with
        | some index => s.replying 0x90 tag .badValue (BitVec.ofNat 8 index) []
        | none => ({ s with seq := { s.seq with
            slots := s.seq.slots.setIfInBounds slot.toNat (some (storedProgram p)) } } : State).replying 0x90 tag .ok 0 [])

/-- R108 to R110: the checks of a program record name the lowest index whose field does not lie in its range, and what a
record that passes them all holds once stored: every field as sent, a default for the marker alone. -/
def Obligations.ProgramsAreCheckedAndStoredAsSent : Prop :=
  (∀ p : RawProgram,
    let marked (lo hi : Nat) (w : Word32) : Prop := w = 0xFFFFFFFF ∨ lo ≤ w.toNat ∧ w.toNat ≤ hi
    let value (kind : BitVec 4) (w : Word32) : Prop :=
      (kind = 2 ∨ kind = 3 → -5000000 ≤ w.toInt ∧ w.toInt ≤ 5000000) ∧ (kind = 6 → 1 ≤ w.toNat ∧ w.toNat ≤ 86400000)
    let stage (g : RawStage) (field : Nat) : Prop := match field with
      | 1 => g.channel.toNat ≤ 2
      | 2 =>
        let top := if g.channel = 0 then 30000 else if g.channel = 1 then 100000 else 1000000
        g.rate.toInt ≤ top ∧ -top ≤ g.rate.toInt
      | 3 => g.kind1.toNat ≤ 8 ∧ ¬(g.kind1 = 1 ∧ g.rate = 0)
      | 4 => value g.kind1 g.value1
      | 5 => g.kind2.toNat ≤ 8 ∧ ¬(g.kind2 = 1 ∧ g.rate = 0) ∧ ¬(g.kind1 = 1 ∧ g.kind2 = 1)
      | _ => value g.kind2 g.value2
    let ok (i : Nat) : Prop := match i with
      | 1 => 1 ≤ p.stageCount.toNat ∧ p.stageCount.toNat ≤ 12
      | 2 => p.extRequired.toNat ≤ 1
      | 3 => p.extLostAction.toNat ≤ 1
      | 4 => p.removalStrain.toNat ≤ 2000000
      | 5 => p.removeAtNecking.toNat ≤ 1
      | 6 => p.removeBefore = 0 ∨ p.removeBefore.toNat < p.stageCount.toNat
      | 7 => marked 500 10000 p.removalTime
      | 8 => p.fitLower.toNat ≤ 5000000
      | 9 => p.fitLower.toNat < p.fitUpper.toNat ∧ p.fitUpper.toNat ≤ 5000000
      | 10 => marked 1000 100000 p.rpOffset
      | 11 => marked 1 50 p.yieldDrop
      | 12 => marked 0 100000 p.guardStrain
      | 13 => marked 1 50 p.margin
      | 14 => marked 1 100 p.neckingThreshold
      | 15 => marked 10 90 p.breakPct
      | 16 => marked 1 50 p.suddenPct
      | 17 => marked 100 2000000 p.breakMin
      | 18 => 1 ≤ p.forceLimit.toNat ∧ p.forceLimit.toNat ≤ 2200000
      | 19 => p.autoTare.toNat ≤ 1
      | 20 => p.returnEnabled.toNat ≤ 1
      | 21 => 1 ≤ p.returnSpeed.toNat ∧ p.returnSpeed.toNat ≤ 30000
      | 22 => p.holdMode.toNat ≤ 1
      | 23 => p.timersInHold.toNat ≤ 1
      | 24 => p.streamInHold.toNat ≤ 1
      | 25 => p.markerMode.toNat ≤ 2
      | i => ∀ n field g, i = 40 + 8 * n + field → 1 ≤ field → field ≤ 6 → p.stages[n]? = some g → stage g field
    (firstFailing (programChecks p) = none ↔ ∀ i, ok i) ∧
      ∀ i, firstFailing (programChecks p) = some i ↔ ¬ok i ∧ ∀ j, j < i → ok j) ∧
  (∀ p : RawProgram, firstFailing (programChecks p) = none →
    let q := storedProgram p
    let given (default : Nat) (w : Word32) : Nat := if w = 0xFFFFFFFF then default else w.toNat
    (q.extRequired = decide (p.extRequired = 1) ∧ q.extLostAction = (if p.extLostAction = 1 then .hold else .continue) ∧
      q.removalStrain = (if p.removalStrain = 0 then none else some (p.removalStrain.toNat : Int)) ∧
      q.removeAtNecking = decide (p.removeAtNecking = 1) ∧
      q.removeBefore = (if p.removeBefore = 0 then none else some p.removeBefore.toNat)) ∧
    (q.removalTime = given 3000 p.removalTime ∧ q.fitLower = p.fitLower.toNat ∧ q.fitUpper = p.fitUpper.toNat ∧
      q.rpOffset = given 20000 p.rpOffset ∧ q.yieldDrop = given 5 p.yieldDrop ∧
      q.guardStrain = given 5000 p.guardStrain ∧ q.margin = given 10 p.margin ∧
      q.neckingThreshold = given 20 p.neckingThreshold ∧ q.breakPct = given 40 p.breakPct ∧
      q.suddenPct = given 10 p.suddenPct ∧ q.breakMin = given 1000 p.breakMin) ∧
    (q.forceLimit = p.forceLimit.toNat ∧ q.autoTare = decide (p.autoTare = 1) ∧
      q.returnEnabled = decide (p.returnEnabled = 1) ∧ q.returnSpeed = p.returnSpeed.toNat ∧
      q.holdMode = (if p.holdMode = 1 then .holdPosition else .holdChannel) ∧
      q.timersInHold = (if p.timersInHold = 1 then .stop else .run) ∧
      q.streamInHold = (if p.streamInHold = 1 then .stop else .run) ∧
      q.markerMode = (if p.markerMode = 2 then .recordToggle else if p.markerMode = 1 then .testLevel else .off)) ∧
    q.stages.length = p.stages.length ∧
    ∀ (n : Nat) (g : RawStage) (h : Stage), p.stages[n]? = some g → q.stages[n]? = some h →
      let kinds : List EndKind := [.never, .target, .forceAbove, .forceBelow, .strainAbove, .displacementAbove, .stageTime,
        .yieldFound, .fmaxPassed]
      codeIn [.position, .force, .strain] h.channel = g.channel ∧ h.rate = g.rate.toInt ∧
        codeIn kinds h.end1.kind = g.kind1.setWidth 8 ∧ h.end1.value = g.value1.toInt ∧
        codeIn kinds h.end2.kind = g.kind2.setWidth 8 ∧ h.end2.value = g.value2.toInt) ∧
  ∀ p : RawProgram, firstFailing (programChecks p) = none →
    let q := storedProgram p
    (1 ≤ p.stageCount.toNat ∧ p.stageCount.toNat ≤ 12) ∧
    (∀ n, q.removalStrain = some n → 1 ≤ n ∧ n ≤ 2000000) ∧
    (∀ n, q.removeBefore = some n → 1 ≤ n ∧ n < p.stageCount.toNat) ∧
    (500 ≤ q.removalTime ∧ q.removalTime ≤ 10000) ∧ (0 ≤ q.fitLower ∧ q.fitLower < q.fitUpper ∧ q.fitUpper ≤ 5000000) ∧
    (1000 ≤ q.rpOffset ∧ q.rpOffset ≤ 100000) ∧ (1 ≤ q.yieldDrop ∧ q.yieldDrop ≤ 50) ∧
    (0 ≤ q.guardStrain ∧ q.guardStrain ≤ 100000) ∧ (1 ≤ q.margin ∧ q.margin ≤ 50) ∧
    (1 ≤ q.neckingThreshold ∧ q.neckingThreshold ≤ 100) ∧ (10 ≤ q.breakPct ∧ q.breakPct ≤ 90) ∧
    (1 ≤ q.suddenPct ∧ q.suddenPct ≤ 50) ∧ (100 ≤ q.breakMin ∧ q.breakMin ≤ 2000000) ∧
    (1 ≤ q.forceLimit ∧ q.forceLimit ≤ 2200000) ∧ (1 ≤ q.returnSpeed ∧ q.returnSpeed ≤ 30000) ∧
    ∀ g ∈ q.stages,
      (match g.channel with
        | .position => -30000 ≤ g.rate ∧ g.rate ≤ 30000
        | .force => -100000 ≤ g.rate ∧ g.rate ≤ 100000
        | .strain => -1000000 ≤ g.rate ∧ g.rate ≤ 1000000) ∧
      (g.end1.kind = .target ∨ g.end2.kind = .target → g.rate ≠ 0) ∧
      ¬(g.end1.kind = .target ∧ g.end2.kind = .target) ∧
      ∀ e ∈ [g.end1, g.end2],
        (e.kind = .forceAbove ∨ e.kind = .forceBelow → -5000000 ≤ e.value ∧ e.value ≤ 5000000) ∧
        (e.kind = .stageTime → 1 ≤ e.value ∧ e.value ≤ 86400000)

/-- R126 and section 11.6: SET_WATCH, its checks in their order, and the entry as it is stored, with the codes of its
fields. -/
def Obligations.SetWatchReplacesAnUnbarredEntry : Prop :=
  (∀ (s : State) (tag index : Byte) (w : RawWatch), s.free → 4 < index.toNat →
    exec (.setWatch tag index w) s = .next (s.replying 0x99 tag .badValue 0 [])) ∧
  (∀ (s : State) (tag index : Byte) (w : RawWatch) (h : index.toNat < 5), s.free →
    let old := s.watches[index.toNat]
    exec (.setWatch tag index w) s = .next (
      if (s.frame.state = .testing ∨ s.frame.state = .held) ∧ old.enabled = true ∧ old.state = .armed ∧
          old.action ≠ .notify then s.replying 0x99 tag .busy 0 []
      else if 1 < w.enabled.toNat then s.replying 0x99 tag .badValue 1 []
      else if 4 < w.quantity.toNat then s.replying 0x99 tag .badValue 2 []
      else if 1 < w.direction.toNat then s.replying 0x99 tag .badValue 4 []
      else if 4 < w.action.toNat then s.replying 0x99 tag .badValue 5 []
      else if 1 < w.rearm.toNat then s.replying 0x99 tag .badValue 6 []
      else if w.rearm = 1 ∧ (w.hysteresis = 0 ∨ 2147483647 < w.hysteresis.toNat) then s.replying 0x99 tag .badValue 7 []
      else ({ s with watches := s.watches.set index.toNat (storedWatch w) } : State).replying 0x99 tag .ok 0 [])) ∧
  ∀ w : RawWatch, (storedWatch w).enabled = decide (w.enabled = 1) ∧ (storedWatch w).level = w.level.toInt ∧
    (storedWatch w).state = .armed ∧ (storedWatch w).previous = none ∧
    (storedWatch w).hysteresis = (if w.rearm = 1 then (w.hysteresis.toNat : Int) else 0) ∧
    (w.quantity.toNat ≤ 4 →
      codeIn [.force, .strain, .displacement, .position, .testTime] (storedWatch w).quantity = w.quantity) ∧
    (w.direction.toNat ≤ 1 → codeIn [.rising, .falling] (storedWatch w).direction = w.direction) ∧
    (w.action.toNat ≤ 4 →
      codeIn [.notify, .hold, .nextStage, .endTest, .removeExt] (storedWatch w).action = w.action) ∧
    (w.rearm.toNat ≤ 1 → codeIn [.once, .rearm] (storedWatch w).rearm = w.rearm)

/-! ### Specimens and results -/

/-- R140, R141 and R142: exactly the records within these ranges pass the checks of ADD_SPECIMEN, which name the lowest field
number that fails; a record that passes joins the end of the queue. That the unused places of an ID may hold any bytes, and
that they are no part of the ID, is the model's choice (log 24). -/
def Obligations.AddSpecimenJoinsTheQueueWithinItsRanges : Prop :=
  (∀ r : RawSpecimen, r.id.wf = true →
    let ok (i : Nat) : Prop := match i with
      | 1 => 1 ≤ r.id.length.toNat ∧ r.id.length.toNat ≤ 16 ∧
          ∀ b ∈ r.id.places.take r.id.length.toNat, 0x20 ≤ b.toNat ∧ b.toNat ≤ 0x7E
      | 2 => r.slot.toNat ≤ 3
      | 3 => r.shape.toNat ≤ 2
      | 4 => 1 ≤ r.dim1.toNat ∧
          r.dim1.toNat ≤ if r.shape = 0 then 150000 else if r.shape = 1 then 1000000 else 10000000
      | 5 => r.shape = 1 → 1 ≤ r.dim2.toNat ∧ r.dim2.toNat ≤ 1000000
      | 6 => 10000 ≤ r.parallel.toNat ∧ r.parallel.toNat ≤ 1000000
      | 7 =>
        let s0 : Int := if r.shape = 0 then roundDiv ((r.dim1.toNat : Int) ^ 2 * 314159265) 400000000000
          else if r.shape = 1 then roundDiv ((r.dim1.toNat : Int) * r.dim2.toNat) 1000 else r.dim1.toNat
        1 ≤ s0 ∧ s0 ≤ 10000000
      | _ => True
    (specimenFailure r = none ↔ ∀ i, ok i) ∧ (∀ i, specimenFailure r = some i ↔ ¬ok i ∧ ∀ j, j < i → ok j) ∧
    (specimenFailure r = none →
      let x := storedSpecimen r
      x.id = r.id.places.take r.id.length.toNat ∧ x.slot = r.slot.toNat ∧
        codeIn [.round, .rect, .given] x.shape = r.shape ∧ x.dim1 = r.dim1.toNat ∧ x.dim2 = r.dim2.toNat ∧
        x.parallel = r.parallel.toNat ∧
        (x.s0 : Int) = if r.shape = 0 then roundDiv ((r.dim1.toNat : Int) ^ 2 * 314159265) 400000000000
          else if r.shape = 1 then roundDiv ((r.dim1.toNat : Int) * r.dim2.toNat) 1000 else r.dim1.toNat)) ∧
  ∀ (s : State) (tag : Byte) (r : RawSpecimen), s.free →
    let x := storedSpecimen r
    exec (.addSpecimen tag r) s = .next (
      match specimenFailure r with
      | some index => s.replying 0x91 tag .badValue (BitVec.ofNat 8 index) []
      | none =>
        if x.id ∈ s.recs.queue.map (·.id) ∨ x.id ∈ s.recs.test.toList.map (·.specimen.id) ∨
            x.id ∈ s.recs.results.map (·.id) then s.replying 0x91 tag .duplicate 0 []
        else if 8 ≤ s.recs.queue.length then s.replying 0x91 tag .full 0 []
        else ({ s with recs := { s.recs with queue := s.recs.queue ++ [x] } } : State).replying 0x91 tag .ok 0
          (bytes32 (unsigned32 x.s0) ++ [BitVec.ofNat 8 (s.recs.queue.length + 1)]))

/-- R143 and R144: DROP_SPECIMEN and READ_QUEUE. That an ID is its characters alone, whatever its unused places hold, is the
model's choice (log 24). -/
def Obligations.DropSpecimenAndReadQueue : Prop :=
  (∀ id : RawId, id.wf = true → (idOk id = true ↔ 1 ≤ id.length.toNat ∧ id.length.toNat ≤ 16 ∧
    ∀ b ∈ id.places.take id.length.toNat, 0x20 ≤ b.toNat ∧ b.toNat ≤ 0x7E)) ∧
  (∀ (s : State) (tag : Byte) (id : RawId) (before after : List Specimen) (x : Specimen), s.free →
    idOk id = true → s.recs.queue = before ++ x :: after → x.id = idChars id → (∀ y ∈ before, y.id ≠ idChars id) →
      exec (.dropSpecimen tag id) s = .next (({ s with recs := { s.recs with queue := before ++ after } } :
        State).replying 0x92 tag .ok 0 [BitVec.ofNat 8 (before ++ after).length])) ∧
  (∀ (s : State) (tag : Byte) (id : RawId), s.free → idOk id = true → (∀ y ∈ s.recs.queue, y.id ≠ idChars id) →
    exec (.dropSpecimen tag id) s = .next (s.replying 0x92 tag .notFound 0 [])) ∧
  (∀ (s : State) (tag : Byte) (id : RawId), s.free → idOk id = false →
    exec (.dropSpecimen tag id) s = .next (s.replying 0x92 tag .badValue 1 [])) ∧
  ∀ (s : State) (tag first : Byte), s.free →
    exec (.readQueue tag first) s = .next (
      if 7 < first.toNat then s.replying 0x93 tag .badValue 1 []
      else s.replying 0x93 tag .ok 0 (BitVec.ofNat 8 s.recs.queue.length :: first ::
        ((s.recs.queue.drop first.toNat).take 6).flatMap fun x =>
          BitVec.ofNat 8 x.id.length :: (x.id ++ List.replicate (16 - x.id.length) 0) ++
            [BitVec.ofNat 8 x.slot, match x.shape with | .round => 0 | .rect => 1 | .given => 2] ++
            bytes32 (unsigned32 x.dim1) ++ bytes32 (unsigned32 x.dim2) ++ bytes32 (unsigned32 x.parallel) ++
            bytes32 (unsigned32 x.s0)))

/-- R151, R152, R174 and section 11.6: READ_RESULT and DELETE_RESULT, and the 115 bytes of a result record: each optional part
begins with 0, or with the code of its absence reason and zeros for its values. That an empty list comes before a malformed ID is log 13; that an ID is its
characters alone, whatever its unused places hold, is log 24: both are the model's choices. -/
def Obligations.ResultsAreReadAndDeleted : Prop :=
  (∀ id : RawId, id.wf = true → (idOk id = true ↔ 1 ≤ id.length.toNat ∧ id.length.toNat ≤ 16 ∧
    ∀ b ∈ id.places.take id.length.toNat, 0x20 ≤ b.toNat ∧ b.toNat ≤ 0x7E)) ∧
  (∀ (s : State) (tag : Byte) (id : Option RawId), s.free → s.recs.results = [] →
    exec (.readResult tag id) s = .next (s.replying 0x9A tag .empty 0 [])) ∧
  (∀ (s : State) (tag : Byte) (r : Result) (rest : List Result), s.free → s.recs.results = r :: rest →
    exec (.readResult tag none) s = .next (s.replying 0x9A tag .ok 0 r.bytes)) ∧
  (∀ (s : State) (tag : Byte) (id : RawId) (before after : List Result) (r : Result), s.free → idOk id = true →
    s.recs.results = before ++ r :: after → r.id = idChars id → (∀ x ∈ before, x.id ≠ idChars id) →
      exec (.readResult tag (some id)) s = .next (s.replying 0x9A tag .ok 0 r.bytes) ∧
      exec (.deleteResult tag id) s = .next (({ s with recs := { s.recs with results := before ++ after } } :
        State).replying 0x9B tag .ok 0 [BitVec.ofNat 8 (before ++ after).length])) ∧
  (∀ (s : State) (tag : Byte) (id : RawId), s.free → idOk id = true → s.recs.results ≠ [] →
    (∀ x ∈ s.recs.results, x.id ≠ idChars id) →
      exec (.readResult tag (some id)) s = .next (s.replying 0x9A tag .notFound 0 []) ∧
      exec (.deleteResult tag id) s = .next (s.replying 0x9B tag .notFound 0 [])) ∧
  (∀ (s : State) (tag : Byte) (id : RawId), s.free → idOk id = false → s.recs.results ≠ [] →
      exec (.readResult tag (some id)) s = .next (s.replying 0x9A tag .badValue 1 []) ∧
      exec (.deleteResult tag id) s = .next (s.replying 0x9B tag .badValue 1 [])) ∧
  (∀ (s : State) (tag : Byte) (id : RawId), s.free → s.recs.results = [] →
    exec (.deleteResult tag id) s = .next (s.replying 0x9B tag .empty 0 [])) ∧
  ∀ r : Result,
    let field (x : Int) : List Byte := bytes32 (signed32 x)
    let two (n : Nat) : List Byte := bytes16 (BitVec.ofNat 16 n)
    let byte (n : Nat) : Byte := BitVec.ofNat 8 n
    let why (x : Reason) : Byte := match x with
      | .notDiscontinuous => 1
      | .notReached => 2
      | .fitInvalid => 3
      | .fitOpen => 4
      | .endedEarly => 5
      | .noBreak => 6
    let yield (x : Machine.Part ForceStress) : List Byte := match x with
      | .present y => 0 :: (field y.force ++ field y.stress)
      | .absent y => why y :: List.replicate 8 0
    let single (x : Machine.Part Int) : List Byte := match x with
      | .present y => 0 :: field y
      | .absent y => why y :: List.replicate 4 0
    r.bytes =
      byte r.id.length :: (r.id ++ List.replicate (16 - r.id.length) 0) ++ [byte r.slot] ++ bytes32 (unsigned32 r.s0) ++
      [codeIn [.completedBreak, .completedNoBreak, .endedByWatch, .aborted, .testFault, .frameFault, .reset] r.outcome,
        byte r.detail] ++
      bytes32 r.startTime ++ bytes32 r.duration ++ bytes64 (signed64 r.energy) ++ two r.gapCount ++ two r.badCount ++
      two r.holdCount ++ [byte r.switchCount] ++
      (match r.maxForce with
        | .present y => 0 :: (field y.fmax ++ field y.rm ++ field y.agt)
        | .absent y => why y :: List.replicate 12 0) ++
      yield r.upperYield ++ yield r.lowerYield ++ single r.plateau ++ yield r.offsetYield ++ single r.modulus ++
      (match r.breakPart with
        | .present y => 0 :: (field y.force ++ field y.d ++ field y.strain)
        | .absent y => why y :: List.replicate 12 0) ++
      (match r.removalStrain with
        | some x => 0 :: field x
        | none => [7, 0, 0, 0, 0]) ∧
    (r.id.length ≤ 16 → r.bytes.length = 115)

/-! ### Starting and ending a test -/

/-- R145: TEST_START is checked in this order, and a refused one changes nothing but the reply queue. The fifth check names the
first channel in the order POSITION, FORCE, STRAIN that the program uses and whose Kp is 0. -/
def Obligations.TestStartIsCheckedInOrder : Prop :=
  (∀ (f : Frame) (p : Program),
    let lacks (c : Channel) (g : Gains) : Prop :=
      ((∃ x ∈ p.stages, x.channel = c) ∨ c = .position ∧ p.holdMode = .holdPosition) ∧ g.kp = 0
    (lacks .position f.gainsPosition → missingGain f p = some 2) ∧
    (¬lacks .position f.gainsPosition → lacks .force f.gainsForce → missingGain f p = some 3) ∧
    (¬lacks .position f.gainsPosition → ¬lacks .force f.gainsForce → lacks .strain f.gainsStrain →
      missingGain f p = some 4) ∧
    (¬lacks .position f.gainsPosition → ¬lacks .force f.gainsForce → ¬lacks .strain f.gainsStrain →
      missingGain f p = none)) ∧
  ∀ (s : State) (tag : Byte), s.free →
    (s.frame.state ≠ .ready → exec (.testStart tag) s = .next (s.replying 0x94 tag .wrongState 1 [])) ∧
    (s.frame.state = .ready → s.recs.queue = [] →
      exec (.testStart tag) s = .next (s.replying 0x94 tag .empty 0 [])) ∧
    ∀ (head : Specimen) (rest : List Specimen), s.frame.state = .ready → s.recs.queue = head :: rest →
      (8 ≤ s.recs.results.length → exec (.testStart tag) s = .next (s.replying 0x94 tag .full 0 [])) ∧
      (s.recs.results.length < 8 → (∀ p, s.seq.slots[head.slot]? ≠ some (some p)) →
        exec (.testStart tag) s = .next (s.replying 0x94 tag .notFound (BitVec.ofNat 8 head.slot) [])) ∧
      ∀ p : Program, s.recs.results.length < 8 → s.seq.slots[head.slot]? = some (some p) →
        (∀ detail, missingGain s.frame p = some detail →
          exec (.testStart tag) s = .next (s.replying 0x94 tag .wrongState (BitVec.ofNat 8 detail) [])) ∧
        (missingGain s.frame p = none → p.extRequired = true → s.strain.state ≠ .zeroed →
          exec (.testStart tag) s = .next (s.replying 0x94 tag .wrongState 5 []))

/-- R146 with R45, R31, R39, R57, R62, R92, R111, R112, R113, R114, R123, R127, R158: what a TEST_START that passes its checks hands to
the blocks; RATE_CLAMPED is raised once for each clamped value, with the detail of the first (R112, R179). A stored program has
at most twelve stages (R109). No test-end arrival of an earlier test is on its way, and the points and notices of the test
before are dropped, the lock notices kept (log 8); the mark of a made point is the model's (log 30). -/
def Obligations.TestStartHandsTheStartToTheBlocks : Prop :=
  ∀ (s : State) (tag : Byte) (head : Specimen) (rest : List Specimen) (p : Program), s.free →
    s.frame.state = .ready → s.recs.queue = head :: rest → s.recs.results.length < 8 →
    s.seq.slots[head.slot]? = some (some p) → missingGain s.frame p = none →
    (p.extRequired = true → s.strain.state = .zeroed) → .strainSourceTestEnd ∉ s.mail → .breakDetectionTestEnd ∉ s.mail →
    p.stages.length ≤ 12 →
    let vmax := s.frame.defn.vmax
    let clamped : List Nat :=
      ((List.range p.stages.length).filter fun n =>
        p.stages[n]?.any fun g => decide (g.channel = .position) && decide (vmax < g.rate.natAbs)) ++
      (if vmax < p.returnSpeed then [12] else [])
    ∃ u : State,
      exec (.testStart tag) s = .next (u.replying 0x94 tag .ok 0 (idField head.id ++ bytes32 (unsigned32 head.s0))) ∧
      u.recs = { s.recs with queue := rest,
                             test := some { specimen := head, startTime := s.clock, pointMade := false } } ∧
      u.frame = { s.frame with state := .testing, gateActed := false } ∧
      u.servo = { s.servo with startPos := s.servo.latest.p, startTime := s.clock, override := 100, entry := true } ∧
      (u.seq.running =
          some { slot := head.slot, program := p.convert head.s0 s.servo.latest.p s.frame.defn.vmax } ∧
        u.seq.stage = some 0 ∧ u.seq.timeMark = false ∧ u.seq.yieldMark = false ∧ u.seq.fmaxMark = false ∧
        u.seq.lastEnd = none ∧ u.seq.markerMode = p.markerMode ∧
        u.seq.marker = decide (p.markerMode = .testLevel) ∧ u.seq.slots = s.seq.slots) ∧
      u.force = (let c := if p.autoTare then s.force.retare s.force.fLin else s.force
        { c with peak := max 0 c.filtered, armed := false, breakFlag := false, capture := none,
                 previous := c.filtered }) ∧
      (s.strain.state ≠ .following → s.strain.state ≠ .derived → u.strain = { s.strain with
        parallel := head.parallel, gapCount := 0, badCount := 0, switchCount := 0, removalStrain := none, ofTest := false
        state := if s.strain.state = .zeroed then .following
          else if s.strain.state = .removing then .removing else .derived
        pendingSwitch := if s.strain.state = .zeroed then s.strain.pendingSwitch else some 0 }) ∧
      u.eval = { phase := .elastic, fLo := forceOfStress p.fitLower head.s0, fHi := forceOfStress p.fitUpper head.s0, n := 0,
                 sumE := 0, sumF := 0, sumEE := 0, sumEF := 0, overflow := false, fit := .opened, slope := none,
                 intercept := none, modulus := none, energy := 0, prevD := 0, fmax := none, agt := none, tracking := none,
                 reH := none, epsReH := none, guardEnd := none, reL := none, plateau := .notStarted, ae := none, rp := none,
                 path := .none } ∧
      (∀ g, p.stages[0]? = some g → u.seq.timer = (match g.end1.kind, g.end2.kind with
        | .stageTime, .stageTime => .running (min g.end1.value.toNat g.end2.value.toNat)
        | .stageTime, _ => .running g.end1.value.toNat
        | _, .stageTime => .running g.end2.value.toNat
        | _, _ => .stopped)) ∧
      u.points = { sequencer := [], watch := [], evaluation := [], removal := [] } ∧
      u.mail = s.mail.filter (fun n => n = .receiverEntersLocked ∨ n = .receiverLeavesLocked) ∧
      (∀ i (h : i < 5), u.watches[i] =
        if s.watches[i].enabled then { s.watches[i] with state := .armed, previous := none } else s.watches[i]) ∧
      u.hold = { s.hold with count := 0 } ∧
      (u.events.record .rateClamped = (match clamped, s.events.record .rateClamped with
          | [], r => r
          | _, some r => some { r with count := min 255 (r.count + clamped.length) }
          | n :: _, none =>
            some { count := clamped.length, time := s.clock, detail := BitVec.ofNat 32 n, cls := .warning }) ∧
        u.events.record .stageEntered = some (s.events.oneMore .stageEntered s.clock 0 .info) ∧
        u.events.record .testStarted =
          some (s.events.oneMore .testStarted s.clock (BitVec.ofNat 32 head.slot) .info) ∧
        ∀ k, k ≠ .rateClamped → k ≠ .stageEntered → k ≠ .testStarted → u.events.record k = s.events.record k) ∧
      u.inputs = s.inputs ∧ u.clock = s.clock ∧ u.ext = s.ext ∧ u.stream = s.stream ∧ u.pending = s.pending

/-- R111 and R112: the running copy's conversions, of both end conditions alike, and the limit of its return speed. -/
def Obligations.RunningCopyIsConverted : Prop :=
  (∀ (g : Stage) (s0 startPos vmax : Int), 0 ≤ vmax →
    let c := g.convert s0 startPos vmax
    let force (x : Int) : Int := roundDiv (form64 (x * s0)) 1000
    let converted (e e' : EndCondition) : Prop :=
      e'.kind = e.kind ∧ (e.kind = .forceAbove ∨ e.kind = .forceBelow → e'.value = force e.value) ∧
      (e.kind = .target → g.channel = .position → e'.value = e.value + startPos) ∧
      (e.kind = .target → g.channel = .force → e'.value = force e.value) ∧
      (e.kind = .target → g.channel = .strain → e'.value = e.value) ∧
      (e.kind ≠ .target → e.kind ≠ .forceAbove → e.kind ≠ .forceBelow → e'.value = e.value)
    c.channel = g.channel ∧ (g.channel = .force → c.rate = force g.rate) ∧ (g.channel = .strain → c.rate = g.rate) ∧
    (g.channel = .position → c.rate.natAbs ≤ vmax.natAbs ∧ (g.rate.natAbs ≤ vmax.natAbs → c.rate = g.rate) ∧
      (vmax < g.rate → c.rate = vmax) ∧ (g.rate < -vmax → c.rate = -vmax)) ∧
    converted g.end1 c.end1 ∧ converted g.end2 c.end2) ∧
  ∀ (p : Program) (s0 startPos vmax : Int),
    p.convert s0 startPos vmax = { p with
      stages := p.stages.map fun g => g.convert s0 startPos vmax
      returnSpeed := if vmax < p.returnSpeed then vmax else p.returnSpeed }

/-- R120 and R121 with R42, R153, R154, R173 and R174: what the test end sequence leaves, for each outcome: the result with its
optional parts or their absence reasons, TEST_ENDED and then RESULT_READY with their details, and every block's state. -/
def Obligations.TestEndSequenceLeavesEveryBlock : Prop :=
  ∀ (s : State) (t : TestInProgress) (outcome : TestOutcome) (detail : Nat) (p : Program),
    s.recs.test = some t → s.program = some p →
    let u := s.endTest outcome detail
    let e := s.eval
    let s0 : Int := t.specimen.s0
    let stress (f : Int) : Int := roundDiv (form64 (f * 1000)) s0
    let code : Nat := match outcome with
      | .completedBreak => 0
      | .completedNoBreak => 1
      | .endedByWatch => 2
      | .aborted => 3
      | .testFault => 4
      | .frameFault => 5
      | .reset => 6
    (u.recs.test = none ∧ u.recs.queue = s.recs.queue ∧
      ∃ r : Result, u.recs.results = s.recs.results ++ [r] ∧ r.id = t.specimen.id ∧ r.outcome = outcome ∧
        r.detail = detail ∧ r.startTime = t.startTime ∧ r.duration = s.clock - t.startTime ∧
        r.energy = roundDiv s.eval.energy 1000000 ∧ r.holdCount = s.hold.count ∧ r.gapCount = s.strain.gapCount ∧
        r.badCount = s.strain.badCount ∧ r.switchCount = s.strain.switchCount ∧
        r.removalStrain = s.strain.removalStrain ∧ r.slot = t.specimen.slot ∧ r.s0 = t.specimen.s0 ∧
        (∀ f a, e.fmax = some f → e.agt = some a → r.maxForce = .present { fmax := f, rm := stress f, agt := a }) ∧
        (e.fmax = none → r.maxForce = .absent .notReached) ∧
        (∀ f, e.reH = some f → r.upperYield = .present { force := f, stress := stress f }) ∧
        (e.reH = none → (e.path = .continuous → r.upperYield = .absent .notDiscontinuous) ∧
          (e.path = .none → r.upperYield = .absent .notReached)) ∧
        (∀ f, e.reL = some f → r.lowerYield = .present { force := f, stress := stress f }) ∧
        (e.reL = none → (e.path = .continuous → r.lowerYield = .absent .notDiscontinuous) ∧
          (e.path = .none → r.lowerYield = .absent .notReached) ∧
          (e.path = .discontinuous → r.lowerYield = .absent .endedEarly)) ∧
        (∀ a, e.plateau = .ended → e.ae = some a → r.plateau = .present a) ∧
        (e.plateau ≠ .ended → (e.path = .continuous → r.plateau = .absent .notDiscontinuous) ∧
          (e.path = .none → r.plateau = .absent .notReached) ∧
          (e.path = .discontinuous → r.plateau = .absent .endedEarly)) ∧
        (∀ f, e.rp = some f → r.offsetYield = .present { force := f, stress := stress f }) ∧
        (e.rp = none → (e.fit = .invalid → r.offsetYield = .absent .fitInvalid) ∧
          (e.fit = .opened → r.offsetYield = .absent .fitOpen) ∧
          (e.fit = .valid → r.offsetYield = .absent .notReached)) ∧
        (∀ m, e.fit = .valid → e.modulus = some m → r.modulus = .present m) ∧
        (e.fit = .invalid → r.modulus = .absent .fitInvalid) ∧ (e.fit = .opened → r.modulus = .absent .fitOpen) ∧
        (∀ c, s.force.capture = some c → r.breakPart = .present { force := c.force, d := c.d, strain := c.eps }) ∧
        (s.force.capture = none → r.breakPart = .absent .noBreak)) ∧
    u.eval = { s.eval with phase := .ended } ∧ u.hold = { s.hold with causes := HoldCauses.empty } ∧
    u.events.record .testEnded = some (s.events.oneMore .testEnded s.clock (BitVec.ofNat 32 code) .info) ∧
    u.events.record .resultReady =
      some (s.events.oneMore .resultReady s.clock (BitVec.ofNat 32 (s.recs.results.length + 1)) .info) ∧
    (s.events.record .testEnded = none → s.events.record .resultReady = none →
      s.events.enabled.getLsbD 8 = true → s.events.enabled.getLsbD 9 = true →
      u.link.eventQueue = s.link.eventQueue ++ [.testEnded, .resultReady]) ∧
    (u.seq.timer = .stopped ∧ u.seq.stage = none ∧ u.seq.timeMark = false ∧ u.seq.yieldMark = false ∧
      u.seq.fmaxMark = false ∧ u.seq.running = none ∧ u.seq.slots = s.seq.slots ∧
      u.seq.marker = if s.seq.markerMode = .testLevel then false else s.seq.marker) ∧
    u.servo = { s.servo with entry := true } ∧
    u.frame = (match outcome with
      | .completedBreak | .completedNoBreak | .endedByWatch =>
        if p.returnEnabled then { s.frame with
          state := .returning,
          move := some { kind := .returning, target := some s.servo.startPos, rate := p.returnSpeed, reached := false,
                         settle := none } }
        else { s.frame with state := .ready }
      | .aborted | .testFault => { s.frame with state := .ready }
      | .frameFault => s.frame
      | .reset => { s.frame with state := if s.frame.status = .committed then .driveOff else .undefined }) ∧
    u.mail = s.mail ++ [.breakDetectionTestEnd, .strainSourceTestEnd] ∧
    u.force = s.force ∧ u.strain = s.strain ∧ u.ext = s.ext ∧ u.watches = s.watches ∧ u.stream = s.stream ∧
    u.inputs = s.inputs ∧ u.clock = s.clock ∧ u.points = s.points ∧ u.pending = s.pending ∧
    ∀ k, k ≠ .testEnded → k ≠ .resultReady → u.events.record k = s.events.record k

/-- R149 and R133 to R136: ABORT_TEST; the setting of each hold cause by its source, in TESTING, in HELD and elsewhere (where there is
nothing to hold, log 23); HOLD_TEST; CLEAR_HOLD, its value checked before the state (log 13), and RESUME_TEST. -/
def Obligations.AbortHoldClearAndResume : Prop :=
  (∀ (s : State) (c : HoldCause),
    let code : Nat := match c with
      | .operator => 1
      | .watch => 2
      | .removal => 4
      | .extLost => 8
    let joined : HoldCauses :=
      { operator := s.hold.causes.operator || decide (c = .operator), watch := s.hold.causes.watch || decide (c = .watch),
        removal := s.hold.causes.removal || decide (c = .removal),
        extLost := s.hold.causes.extLost || decide (c = .extLost) }
    (s.frame.state = .testing → s.setHold c = ({ s with
      hold := { causes := joined, count := min 65535 (s.hold.count + 1) }
      frame := { s.frame with state := .held }
      servo := { s.servo with entry := s.servo.entry || s.holdsPosition }
      seq := { s.seq with timer := match s.seq.timer with
        | .running left => if s.pausesTimers then .paused left else .running left
        | other => other } } : State).record .heldEntered (BitVec.ofNat 32 code) .info) ∧
    (s.frame.state = .held → s.setHold c = { s with hold := { s.hold with causes := joined } }) ∧
    (s.frame.state ≠ .testing → s.frame.state ≠ .held → s.setHold c = s)) ∧
  (∀ s : State, (s.holdsPosition = true ↔ ∃ p, s.program = some p ∧ p.holdMode = .holdPosition) ∧
    (s.pausesTimers = true ↔ ∃ p, s.program = some p ∧ p.timersInHold = .stop)) ∧
  (∀ (s : State) (tag : Byte), s.free →
    exec (.abortTest tag) s = .next (
      if s.frame.state = .testing ∨ s.frame.state = .held then (s.endTest .aborted 0).replying 0x95 tag .ok 0 []
      else if s.frame.state = .returning then
        ({ s with frame := { s.frame with state := .ready, move := none },
                  servo := { s.servo with sp := s.servo.latest.p, q := 0 } } : State).replying 0x95 tag .ok 0 []
      else s.replying 0x95 tag .wrongState 0 [])) ∧
  (∀ (s : State) (tag : Byte), s.free →
    (s.frame.state = .testing → exec (.holdTest tag) s = .next (
      (({ s with
          hold := { causes := { s.hold.causes with operator := true }, count := min 65535 (s.hold.count + 1) }
          frame := { s.frame with state := .held }
          servo := { s.servo with entry := s.servo.entry || s.holdsPosition }
          seq := { s.seq with timer := match s.seq.timer with
            | .running left => if s.pausesTimers then .paused left else .running left
            | other => other } } : State).record .heldEntered 1 .info).replying 0x96 tag .ok 0
        [BitVec.ofNat 8 ({ s.hold.causes with operator := true } : HoldCauses).code])) ∧
    (s.frame.state = .held → exec (.holdTest tag) s = .next (
      ({ s with hold := { s.hold with causes := { s.hold.causes with operator := true } } } : State).replying 0x96 tag
        .ok 0 [BitVec.ofNat 8 ({ s.hold.causes with operator := true } : HoldCauses).code])) ∧
    (s.frame.state ≠ .testing → s.frame.state ≠ .held →
      exec (.holdTest tag) s = .next (s.replying 0x96 tag .wrongState 0 []))) ∧
  (∀ (s : State) (tag causes : Byte), s.free →
    let left : HoldCauses :=
      { operator := s.hold.causes.operator && !causes.getLsbD 0, watch := s.hold.causes.watch && !causes.getLsbD 1,
        removal := s.hold.causes.removal && !causes.getLsbD 2, extLost := s.hold.causes.extLost && !causes.getLsbD 3 }
    exec (.clearHold tag causes) s = .next (
      if causes = 0 ∨ 15 < causes.toNat then s.replying 0x97 tag .badValue 1 []
      else if s.frame.state = .testing ∨ s.frame.state = .held then
        ({ s with hold := { s.hold with causes := left } } : State).replying 0x97 tag .ok 0 [BitVec.ofNat 8 left.code]
      else s.replying 0x97 tag .wrongState 0 [])) ∧
  ∀ (s : State) (tag : Byte), s.free →
    exec (.resumeTest tag) s = .next (
      if s.frame.state ≠ .held then s.replying 0x98 tag .wrongState 0 []
      else if s.hold.causes.code ≠ 0 then s.replying 0x98 tag .causePending (BitVec.ofNat 8 s.hold.causes.code) []
      else ({ s with
          frame := { s.frame with state := .testing }
          servo := { s.servo with entry := s.servo.entry || s.holdsPosition }
          seq := { s.seq with timer := match s.seq.timer with
            | .paused left => .running left
            | other => other } } : State).replying 0x98 tag .ok 0 [])

/-! ### Events -/

/-- R178, R179 and R180: an occurrence is recorded, coalesced, and queued for report. -/
def Obligations.OccurrencesAreRecordedAndCoalesced : Prop :=
  ∀ (s : State) (k : EventKind) (detail : Word32) (cls : EventClass),
    let t := s.record k detail cls
    (s.events.record k = none →
      t.events.record k = some { count := 1, time := s.clock, detail := detail, cls := cls } ∧
      t.link.eventQueue =
        if s.events.enabled.getLsbD k.code.val = true ∨ cls = .frameFault then s.link.eventQueue ++ [k]
        else s.link.eventQueue) ∧
    (∀ r, s.events.record k = some r →
      t.events.record k = some { r with count := if r.count < 255 then r.count + 1 else 255 } ∧
      t.link.eventQueue = s.link.eventQueue) ∧
    (∀ j, j ≠ k → t.events.record j = s.events.record j) ∧
    t.events.enabled = s.events.enabled ∧ t.events.severities = s.events.severities ∧
    t = { s with events := t.events, link := { s.link with eventQueue := t.link.eventQueue } }

/-- R177, R181, R182, R183 and R14: an occurrence takes the effect of its class at detection. The
arrival of an occurrence (log 36) is what a block does that raises it: `raise` in other statements is this effect. -/
def Obligations.OccurrencesTakeTheEffectOfTheirClass : Prop :=
  ∀ (s : State) (k : EventKind) (detail : Word32),
    exec (.eventOccurrence k detail) s = .next (s.raise k detail).transmit ∧
    (k.code.val ≤ 12 → exec (.eventOccurrence k detail) s = .next (s.record k detail .info).transmit) ∧
    (13 ≤ k.code.val → k.code.val ≤ 19 →
      exec (.eventOccurrence k detail) s = .next (s.record k detail .warning).transmit) ∧
    (∀ severity, (k = .extGap ∧ severity = s.events.severities.extGap ∨
        k = .extLost ∧ severity = s.events.severities.extLost ∨
        k = .extRemovalTimeout ∧ severity = s.events.severities.extRemovalTimeout ∨
        k = .travelLimit ∧ severity = s.events.severities.travelLimit) →
      exec (.eventOccurrence k detail) s = .next (
        if severity = .warning then (s.record k detail .warning).transmit
        else if s.frame.state = .testing ∨ s.frame.state = .held then
          ((s.record k detail .testFault).endTest .testFault k.code.val).transmit
        else (s.record k detail .testFault).transmit)) ∧
    (k = .forceOverrange ∨ k = .forceLimit →
      exec (.eventOccurrence k detail) s = .next (
        if s.frame.state = .testing ∨ s.frame.state = .held then
          ((s.record k detail .testFault).endTest .testFault k.code.val).transmit
        else (s.record k detail .testFault).transmit)) ∧
    (26 ≤ k.code.val →
      let r := s.record k detail .frameFault
      let faulted : State := { r with frame := { s.frame with
        state := .faulted, driveTimer := none, move := none,
        firstCause := if s.frame.state = .faulted then s.frame.firstCause
          else some { kind := k, detail := detail, time := s.clock },
        causeSet := if s.frame.state ≠ .faulted then [k]
          else if k ∈ s.frame.causeSet then s.frame.causeSet else s.frame.causeSet ++ [k] } }
      exec (.eventOccurrence k detail) s = .next (
        if s.frame.state = .undefined then r.transmit
        else if s.frame.state = .testing ∨ s.frame.state = .held then
          (faulted.endTest .frameFault k.code.val).transmit
        else faulted.transmit))

/-- R185, R186 and R189: SET_REPORTING, SET_SEVERITY and INJECT_EVENT. -/
def Obligations.ReportingSeverityAndInjection : Prop :=
  (∀ (s : State) (tag : Byte) (kinds : Word32), s.free →
    exec (.setReporting tag kinds) s = .next (
      if 2147483648 ≤ kinds.toNat then s.replying 0xA0 tag .badValue 1 []
      else ({ s with events := { s.events with enabled := kinds } } : State).replying 0xA0 tag .ok 0 (bytes32 kinds))) ∧
  (∀ (s : State) (tag kind severity : Byte), s.free →
    let x : Severity := if severity = 2 then .testFault else .warning
    exec (.setSeverity tag kind severity) s = .next (
      if ¬(20 ≤ kind.toNat ∧ kind.toNat ≤ 23) then s.replying 0xA1 tag .badValue 1 []
      else if ¬(severity = 1 ∨ severity = 2) then s.replying 0xA1 tag .badValue 2 []
      else ({ s with events := { s.events with severities :=
            { extGap := if kind = 20 then x else s.events.severities.extGap
              extLost := if kind = 21 then x else s.events.severities.extLost
              extRemovalTimeout := if kind = 22 then x else s.events.severities.extRemovalTimeout
              travelLimit := if kind = 23 then x else s.events.severities.travelLimit } } } : State).replying 0xA1 tag
        .ok 0 [])) ∧
  (∀ (s : State) (tag kind : Byte), s.free → 30 < kind.toNat →
    exec (.injectEvent tag kind) s = .next (s.replying 0xA4 tag .badValue 1 [])) ∧
  ∀ (s : State) (tag : Byte) (k : EventKind), s.free →
    exec (.injectEvent tag (BitVec.ofNat 8 k.code.val)) s =
      .next ((s.raise k 0xFFFFFFFF).replying 0xA4 tag .ok 0 [])

/-- R187, R188 and section 11.6: READ_EVENTS and CLEAR_EVENTS; what READ_EVENTS carries is the pending kinds in order of code, at
most 22 of them, in records of ten bytes, and the severities in two bits a settable kind. That the lowest code stands in the two
lowest bits is the model's choice (log 44). -/
def Obligations.EventsAreReadAndCleared : Prop :=
  (∀ (s : State) (tag : Byte), s.free →
    exec (.readEvents tag) s = .next (s.replying 0xA2 tag .ok (BitVec.ofNat 8 s.events.carried.length)
      (bytes32 s.events.pendingSet ++ bytes32 s.events.enabled ++ [s.events.severities.byte] ++
        s.events.carried.flatMap Occurred.bytes))) ∧
  (∀ (s : State) (tag : Byte) (kinds : Word32), s.free → 2147483648 ≤ kinds.toNat →
    exec (.clearEvents tag kinds) s = .next (s.replying 0xA3 tag .badValue 1 [])) ∧
  (∀ (s : State) (tag : Byte) (kinds : Word32), s.free → kinds.toNat < 2147483648 →
    ∃ e : Events, exec (.clearEvents tag kinds) s = .next (({ s with
        events := e,
        link := { s.link with eventQueue := s.link.eventQueue.filter fun k => !kinds.getLsbD k.code.val } } :
          State).replying 0xA3 tag .ok 0 (bytes32 e.pendingSet)) ∧
      e.enabled = s.events.enabled ∧ e.severities = s.events.severities ∧
      ∀ k, e.record k = if kinds.getLsbD k.code.val then none else s.events.record k) ∧
  (∀ (e : Events) (k : EventKind), e.pendingSet.getLsbD k.code.val = (e.record k).isSome) ∧
  (∀ e : Events, ∃ kinds : List EventKind, kinds.Pairwise (fun a b => a.code.val < b.code.val) ∧
    (∀ k, k ∈ kinds ↔ (e.record k).isSome = true) ∧ e.carried = (kinds.filterMap e.record).take 22) ∧
  (∀ r : Occurred, r.bytes = [BitVec.ofNat 8 r.count, codeIn [.info, .warning, .testFault, .frameFault] r.cls] ++
    bytes32 r.time ++ bytes32 r.detail ∧ r.bytes.length = 10) ∧
  ∀ v : Severities,
    let code (x : Severity) : Nat := match x with
      | .warning => 0
      | .testFault => 1
    v.byte = BitVec.ofNat 8 (code v.extGap + 4 * code v.extLost + 16 * code v.extRemovalTimeout + 64 * code v.travelLimit)

/-! ### RESET -/

/-- R155 with R25, R50, R106, R122, R124, R125, R176, R190, R202: RESET, for a frame without an asserted cabinet input. The
strain source and the force channel take the test end within RESET, and one that was on its way too (log 8). -/
def Obligations.ResetClearsWhatIsNotKept : Prop :=
  ∀ (s : State) (tag : Byte), s.free →
    s.inputs.estop = false → s.inputs.upper = false → s.inputs.lower = false →
    (s.inTest = true → s.recs.test.isSome = true) →
    ∃ u : State, exec (.reset tag) s = .next (u.replying 0xBF tag .ok 0 []) ∧
      (u.frame.state = (if s.frame.status = .committed then .driveOff else .undefined) ∧ u.frame.status = s.frame.status ∧
        u.frame.defn = s.frame.defn ∧ u.frame.driveTimer = none ∧ u.frame.move = none ∧ u.frame.offset = s.frame.offset ∧
        u.frame.gainsPosition = s.frame.gainsPosition ∧ u.frame.gainsForce = s.frame.gainsForce ∧
        u.frame.gainsStrain = s.frame.gainsStrain ∧ u.frame.firstCause = none ∧ u.frame.causeSet = []) ∧
      (u.recs.queue = [] ∧ (s.inTest = false → u.recs.results = s.recs.results ∧ u.recs.test = s.recs.test) ∧
        (s.inTest = true → u.recs.test = none ∧
          ∃ r, u.recs.results = s.recs.results ++ [r] ∧ r.outcome = .reset ∧ r.detail = 0)) ∧
      u.servo = { s.servo with override := 100, entry := false } ∧
      u.eval = { s.eval with phase := if s.inTest then .ended else s.eval.phase } ∧
      u.seq = { s.seq with
        stage := if s.inTest then none else s.seq.stage, running := if s.inTest then none else s.seq.running
        timer := if s.inTest then .stopped else s.seq.timer, timeMark := !s.inTest && s.seq.timeMark
        yieldMark := !s.inTest && s.seq.yieldMark, fmaxMark := !s.inTest && s.seq.fmaxMark
        markerMode := .off, marker := false } ∧
      (∀ i (h : i < 5), u.watches[i] = { s.watches[i] with enabled := false, state := .armed, previous := none }) ∧
      u.hold.causes = HoldCauses.empty ∧ u.hold.count = s.hold.count ∧
      (∀ k, u.events.record k = none) ∧ u.events.enabled = s.events.enabled ∧
      u.events.severities = s.events.severities ∧
      u.link = { s.link with eventQueue := [], streamQueue := [] } ∧
      u.stream = { on := false, period := s.stream.pendingPeriod.getD s.stream.period, pendingPeriod := none,
                   idle := s.stream.idle, timer := none, pendingLoss := 0, made := 0, dropped := 0 } ∧
      u.force = { s.force with
        armed := !(s.inTest || decide (.breakDetectionTestEnd ∈ s.mail)) && s.force.armed
        breakFlag := !(s.inTest || decide (.breakDetectionTestEnd ∈ s.mail)) && s.force.breakFlag } ∧
      (u.strain.pendingSwitch = none ∧ u.strain.ofTest = false ∧ u.strain.heldMean = s.strain.heldMean ∧
        u.strain.starvation = s.strain.starvation ∧ u.strain.k = s.strain.k ∧ u.strain.parallel = s.strain.parallel ∧
        u.strain.timer = s.strain.timer ∧ (s.strain.state = .removing → u.strain.state = .removing) ∧
        (s.strain.state = .absent ∨ s.strain.state = .fitted ∨ s.strain.state = .zeroed →
          u.strain.state = s.strain.state ∧ u.strain.zero = s.strain.zero ∧ u.strain.gauge = s.strain.gauge) ∧
        (s.inTest = true → s.strain.state = .following ∨ s.strain.state = .derived ∨ s.strain.state = .removing →
          u.strain.zero = none ∧ u.strain.gauge = none) ∧
        (s.inTest = true → s.strain.state = .following ∨ s.strain.state = .derived →
          u.strain.state = if s.ext.state = .locked then .fitted else .absent)) ∧
      u.ext = s.ext ∧ u.inputs = s.inputs ∧ u.clock = s.clock ∧ u.pending = s.pending

/-- R25, R15 and R16: RESET with cabinet inputs asserted, in a test or outside one, raises the inputs' events again, and they are
reported; a committed frame is FAULTED by them, an open one stays UNDEFINED without a cause. The order E-stop, upper, lower,
which gives the detail of LIMIT_SWITCH with both switches asserted, is the model's (log 28). -/
def Obligations.ResetRaisesTheAssertedInputsAgain : Prop :=
  ∀ (s : State) (tag : Byte), s.free → (s.inTest = true → s.recs.test.isSome = true) →
    s.inputs.estop = true ∨ s.inputs.upper = true ∨ s.inputs.lower = true →
    let causes : List EventKind := (if s.inputs.estop then [.estop] else []) ++
      (if s.inputs.upper || s.inputs.lower then [.limitSwitch] else [])
    ∃ u : State, exec (.reset tag) s = .next (u.replying 0xBF tag .ok 0 []) ∧
      (s.frame.status = .committed → u.frame.state = .faulted ∧ u.frame.causeSet = causes ∧
        u.frame.firstCause = some (if s.inputs.estop then { kind := .estop, detail := 0, time := s.clock }
          else { kind := .limitSwitch, detail := if s.inputs.upper then 1 else 2, time := s.clock })) ∧
      (s.frame.status = .opened → u.frame.state = .undefined ∧ u.frame.causeSet = [] ∧ u.frame.firstCause = none) ∧
      (s.inputs.estop = true → u.events.record .estop =
        some { count := 1, time := s.clock, detail := 0, cls := .frameFault }) ∧
      (s.inputs.upper = true ∨ s.inputs.lower = true → u.events.record .limitSwitch =
        some { count := if s.inputs.upper && s.inputs.lower then 2 else 1, time := s.clock,
               detail := if s.inputs.upper then 1 else 2, cls := .frameFault }) ∧
      (∀ k, k ∉ causes → u.events.record k = none) ∧ u.link = { s.link with eventQueue := causes, streamQueue := [] } ∧
      u.recs.queue = [] ∧ (s.inTest = false → u.recs.results = s.recs.results) ∧
      (s.inTest = true → u.recs.test = none ∧
        ∃ r, u.recs.results = s.recs.results ++ [r] ∧ r.outcome = .reset ∧ r.detail = 0)

/-! ### The data stream -/

/-- R196 and R197: SET_STREAM, STREAM_ON and STREAM_OFF. -/
def Obligations.StreamRequestsSetThePeriodAndTheState : Prop :=
  (∀ (s : State) (tag : Byte) (period : BitVec 16) (idle : Byte), s.free →
    let used := if period.toNat < 1 then 1 else if 1000 < period.toNat then 1000 else period.toNat
    exec (.setStream tag period idle) s = .next (
      if 1 < idle.toNat then s.replying 0xA8 tag .badValue 2 []
      else ({ s with stream := { s.stream with
                idle := decide (idle = 1)
                period := if s.stream.on then s.stream.period else used
                pendingPeriod := if s.stream.on then some used else s.stream.pendingPeriod } } : State).replying 0xA8 tag
        (if period.toNat < 1 ∨ 1000 < period.toNat then .clamped else .ok) 0 (bytes16 (BitVec.ofNat 16 used)))) ∧
  (∀ (s : State) (tag : Byte), s.free →
    exec (.streamOn tag) s = .next (
      if s.stream.on then s.replying 0xA9 tag .ok 0 []
      else ({ s with stream := { s.stream with
          on := true, pendingLoss := 0, made := 0, dropped := 0, timer := some s.stream.period } } : State).replying 0xA9
        tag .ok 0 [])) ∧
  ∀ (s : State) (tag : Byte), s.free →
    exec (.streamOff tag) s = .next (
      if s.stream.on then
        ({ s with stream := { s.stream with
            on := false, timer := none, period := s.stream.pendingPeriod.getD s.stream.period, pendingPeriod := none } } :
          State).replying 0xAA tag .ok 0 []
      else s.replying 0xAA tag .ok 0 [])

/-- R198, R199 and R123: an expiry of the stream period timer, with and without a record, with and without a place. That the
record's held flag is the point's also in HELD before the first held update is the model's choice (log 45). -/
def Obligations.StreamExpiryMakesARecord : Prop :=
  ∀ (s : State) (left : Nat), s.stream.timer = some left →
    let period := s.stream.pendingPeriod.getD s.stream.period
    let restarted : Stream := { s.stream with period := period, pendingPeriod := none, timer := some period }
    let x := s.servo.latest
    let record : StreamRecord :=
      { time := x.time, p := x.p, f := x.f, eps := x.eps, stage := x.stage, source := x.source, held := x.held,
        fitClosed := s.inTest && decide (s.eval.fit ≠ .opened), broken := s.inTest && s.force.capture.isSome,
        overRange := s.force.overRange, frameState := s.frame.state, lostBefore := s.stream.pendingLoss }
    let makes : Prop := s.frame.state = .testing ∨
      s.frame.state = .held ∧ (∀ p, s.program = some p → p.streamInHold = .run) ∨ s.inTest = false ∧ s.stream.idle = true
    let up (n : Nat) := min 4294967295 (n + 1)
    (¬makes → exec .streamPeriodExpiry s = .next ({ s with stream := restarted } : State).transmit) ∧
    (makes → s.link.streamQueue.length < 64 →
      exec .streamPeriodExpiry s = .next ({ s with
        stream := { restarted with made := up s.stream.made, pendingLoss := 0 },
        link := { s.link with streamQueue := s.link.streamQueue ++ [record] },
        seq := { s.seq with marker := if s.seq.markerMode = .recordToggle then !s.seq.marker else s.seq.marker } } :
          State).transmit) ∧
    (makes → 64 ≤ s.link.streamQueue.length →
      exec .streamPeriodExpiry s = .next ((({ s with
        stream := { restarted with made := up s.stream.made, dropped := up s.stream.dropped,
                                   pendingLoss := up s.stream.pendingLoss } } : State).record .streamLoss
          (BitVec.ofNat 32 (up s.stream.pendingLoss)) .warning).transmit))

/-! ### Status and the link -/

/-- R200 and section 11.6, with R48, R67, R83, R104, R107, R122, R125, R139, R148, R156, R175 and R190: GET_STATUS changes
nothing and carries the items of its group in the order of the layout, each with its code. The loop's items of group 0 stand as
at the latest servo update (R48, log 26); the test time of group 3 is that of the latest test point (R148), and the one
occupied slot of group 4 is the request's own (log 26). -/
def Obligations.StatusGroupsCarryTheirItems : Prop :=
  (∀ (s : State) (tag : Byte), s.free →
    let field (x : Int) : List Byte := bytes32 (signed32 x)
    let count (n : Nat) : List Byte := bytes32 (unsigned32 n)
    let two (n : Nat) : List Byte := bytes16 (BitVec.ofNat 16 n)
    let byte (n : Nat) : Byte := BitVec.ofNat 8 n
    let flag (b : Bool) : Byte := if b then 1 else 0
    let present (v : Option Int) : List Byte := match v with
      | some x => 1 :: field x
      | none => [0, 0, 0, 0, 0]
    let zeroed (v : Option Int) : List Byte := field (v.getD 0)
    let id (x : Option (List Byte)) : List Byte := match x with
      | some chars => byte chars.length :: (chars ++ List.replicate (16 - chars.length) 0)
      | none => List.replicate 17 0
    let index (n : Option Nat) : Byte := match n with
      | some i => byte i
      | none => 0xFF
    let sources : List StrainState := [.absent, .fitted, .zeroed, .following, .removing, .derived]
    let program := s.seq.running.map (·.program)
    let x := s.servo.latest
    let point : List Byte := bytes32 x.time ++ bytes32 x.testTime ++ field x.p ++ field x.d ++ field x.f ++ field x.eps ++
      [codeIn sources x.source, index x.stage, flag x.held]
    let frame : List Byte :=
      [codeIn [.undefined, .driveOff, .enabling, .ready, .moving, .testing, .held, .returning, .faulted] s.frame.state,
        codeIn [.opened, .committed] s.frame.status] ++
      (match s.frame.firstCause with
        | some c => byte c.kind.code.val :: (bytes32 c.detail ++ bytes32 c.time)
        | none => 0xFF :: List.replicate 8 0) ++
      bytes32 (kindSet s.frame.causeSet) ++
      [byte (s.inputs.estop.toNat + 2 * s.inputs.upper.toNat + 4 * s.inputs.lower.toNat + 8 * s.inputs.driveReady.toNat +
        16 * s.inputs.driveFault.toNat)] ++
      field x.p ++ bytes32 s.frame.rawCount ++ field s.frame.offset ++
      [codeIn [.position, .force, .strain] s.servo.reported.channel] ++ bytes64 (signed64 s.servo.reported.sp) ++
      bytes16 (BitVec.ofInt 16 s.servo.reported.q) ++ field s.servo.reported.uLast ++
      bytes16 (BitVec.ofInt 16 s.servo.reported.override) ++ point
    let force : List Byte :=
      field s.force.raw ++ [flag s.force.overRange] ++ field s.force.fLin ++ field s.force.tare ++
      [byte s.force.filterLength] ++ field s.force.filtered ++ [flag s.force.overload] ++ field s.force.peak ++
      [flag s.force.armed] ++
      match s.force.capture with
      | some c => 1 :: (field c.force ++ field c.p ++ field c.d ++ field c.eps ++
          [codeIn [.fraction, .sudden] c.condition] ++ bytes32 c.time)
      | none => List.replicate 22 0
    let ext : List Byte :=
      [codeIn [.inhibited, .hunt, .syncA, .first, .confirm, .locked] s.ext.state, flag s.inputs.presence,
        byte s.ext.fifo.length, byte s.ext.pendingDrop, byte s.ext.badCount, index (s.ext.seqRef.map (·.toNat)),
        flag s.ext.latest.isSome] ++
      (match s.ext.latest with
        | some y => field y.elongation ++
            [byte (y.checkBad.toNat + 2 * y.overtravel.toNat + 4 * y.gap.toNat), byte y.lost]
        | none => List.replicate 6 0) ++
      [codeIn sources s.strain.state] ++ field s.strain.heldMean ++ two s.strain.starvation ++ present s.strain.zero ++
      zeroed s.strain.gauge ++ field s.strain.k ++ present s.strain.pendingSwitch ++
      [flag (decide (s.strain.state = .removing)), flag s.inputs.retracted, flag s.strain.timer.isSome] ++
      count (s.strain.timer.getD 0) ++ [flag s.strain.ofTest]
    let test : List Byte :=
      (s.seq.slots.toList.flatMap fun p => match p with
        | some p => [1, byte p.stages.length]
        | none => [0, 0]) ++
      [index (s.seq.running.map (·.slot)), index s.seq.stage, byte ((program.map (·.stages.length)).getD 0)] ++
      (match s.seq.timer with
        | .stopped => 0 :: count 0
        | .running left => 1 :: count left
        | .paused left => 2 :: count left) ++
      [byte (s.seq.timeMark.toNat + 2 * s.seq.yieldMark.toNat + 4 * s.seq.fmaxMark.toNat)] ++
      id (s.recs.test.map (·.specimen.id)) ++ count ((s.recs.test.map (·.specimen.s0)).getD 0) ++
      bytes32 s.servo.testTime ++ [byte s.recs.queue.length, byte s.recs.results.length] ++ id (s.recs.queue.head?.map (·.id)) ++
      [byte s.hold.causes.code] ++ two s.hold.count ++
      [(program.map fun p => codeIn [.holdChannel, .holdPosition] p.holdMode).getD 0,
        (program.map fun p => codeIn [.run, .stop] p.timersInHold).getD 0,
        (program.map fun p => codeIn [.run, .stop] p.streamInHold).getD 0] ++
      (s.watches.toList.flatMap fun w =>
        [flag w.enabled, codeIn [.armed, .fired] w.state,
          codeIn [.notify, .hold, .nextStage, .endTest, .removeExt] w.action, flag w.previous.isSome] ++
        match w.previous with
        | some v => if w.quantity = .testTime then bytes32 (unsigned32 v) else field v
        | none => [0, 0, 0, 0]) ++
      [codeIn [.elastic, .discontinuous, .hardening, .necking, .ended] s.eval.phase,
        codeIn [.opened, .valid, .invalid] s.eval.fit] ++ bytes64 (signed64 s.eval.n) ++
      [flag s.eval.overflow, flag s.eval.tracking.isSome, codeIn [.none, .discontinuous, .continuous] s.eval.path,
        codeIn [.notStarted, .running, .ended, .cutShort] s.eval.plateau, flag s.seq.marker]
    let link : List Byte :=
      bytes32 s.events.pendingSet ++ [byte s.link.eventQueue.length, flag s.stream.on] ++ two s.stream.period ++
      two (s.stream.pendingPeriod.getD 0) ++ [flag s.stream.idle, byte s.link.streamQueue.length] ++
      count s.stream.pendingLoss ++ count s.stream.made ++ count s.stream.dropped ++
      [1, byte s.link.replies.length, flag s.inputs.hostReady]
    exec (.getStatus tag 0) s = .next (s.replying 0xB0 tag .ok 0 frame) ∧ frame.length = 72 ∧
    exec (.getStatus tag 1) s = .next (s.replying 0xB0 tag .ok 0 force) ∧ force.length = 46 ∧
    exec (.getStatus tag 2) s = .next (s.replying 0xB0 tag .ok 0 ext) ∧ ext.length = 46 ∧
    exec (.getStatus tag 3) s = .next (s.replying 0xB0 tag .ok 0 test) ∧
    ((∀ t, s.recs.test = some t → t.specimen.id.length ≤ 16) →
      (∀ y, s.recs.queue.head? = some y → y.id.length ≤ 16) → test.length = 122) ∧
    exec (.getStatus tag 4) s = .next (s.replying 0xB0 tag .ok 0 link) ∧ link.length = 27) ∧
  (∀ (s : State) (tag group : Byte), s.free → 4 < group.toNat →
    exec (.getStatus tag group) s = .next (s.replying 0xB0 tag .badValue 1 [])) ∧
  ∀ (kinds : List EventKind) (k : EventKind), (kindSet kinds).getLsbD k.code.val = decide (k ∈ kinds)

/-- R201 and section 11.6: DESCRIBE changes nothing; the chain holds FRAME, FORCE, CROSSHEAD, EXTENSOMETER while LOCKED, and
MARKER, each with its items in order; before commit FORCE carries a capacity of 0 and no points (R67). R194: a KIND that names
no request of the directory is answered UNKNOWN_KIND. -/
def Obligations.DescribeAndUnknownKinds : Prop :=
  (∀ (s : State) (tag : Byte), s.free →
    let field (x : Int) : List Byte := bytes32 (signed32 x)
    let d := s.frame.defn
    let capacity := if s.frame.status = .committed then d.capacity else 0
    let points := if s.frame.status = .committed then d.points else []
    let frame : List Byte :=
      [codeIn [.opened, .committed] s.frame.status,
        codeIn [.undefined, .driveOff, .enabling, .ready, .moving, .testing, .held, .returning, .faulted] s.frame.state] ++
      field d.capacity ++ field d.vmax ++ field d.travelMin ++ field d.travelMax ++ field d.compliance
    let force : List Byte :=
      field capacity ++ bytes32 (unsigned32 (capacity * 1100)) ++ [BitVec.ofNat 8 points.length] ++
      (points.flatMap fun x => field x.raw ++ field x.force) ++ field s.force.tare ++
      [BitVec.ofNat 8 s.force.filterLength]
    let crosshead : List Byte :=
      field d.nmPerCount ++ field s.servo.latest.p ++ bytes32 s.frame.rawCount ++ field s.frame.offset ++
      field s.servo.startPos
    let extensometer : List Byte :=
      (match s.ext.latest with
        | some y => field y.elongation ++
            [BitVec.ofNat 8 (y.checkBad.toNat + 2 * y.overtravel.toNat + 4 * y.gap.toNat), BitVec.ofNat 8 y.lost]
        | none => List.replicate 6 0) ++
      [codeIn [.absent, .fitted, .zeroed, .following, .removing, .derived] s.strain.state] ++
      (match s.strain.zero with
        | some z => 1 :: field z
        | none => [0, 0, 0, 0, 0]) ++
      field (s.strain.gauge.getD 0) ++ field s.strain.heldMean ++
      (match s.strain.zero, s.strain.gauge with
        | some z, some g => field (roundDiv (form64 ((s.strain.heldMean - z) * 100000)) g)
        | _, _ => [0, 0, 0, 0]) ++
      bytes16 (BitVec.ofNat 16 s.strain.starvation)
    let marker : List Byte :=
      [codeIn [.off, .testLevel, .recordToggle] s.seq.markerMode, if s.seq.marker then 1 else 0]
    exec (.describe tag) s = .next (s.replying 0xB1 tag .ok 0
      (1 :: 22 :: frame ++ 2 :: BitVec.ofNat 8 (14 + 8 * points.length) :: force ++ 3 :: 20 :: crosshead ++
        (if s.ext.state = .locked then 4 :: 26 :: extensometer else []) ++ 5 :: 2 :: marker)) ∧
    frame.length = 22 ∧ force.length = 14 + 8 * points.length ∧ crosshead.length = 20 ∧ extensometer.length = 26 ∧
    marker.length = 2) ∧
  ∀ (s : State) (kind tag : Byte) (body : List Byte), s.free → (Instr.unknownKind kind tag body).wf = true →
    exec (.unknownKind kind tag body) s = .next (s.replying (kind + 0x80) tag .unknownKind 0 [])

/-- R193, R194 and R195: while the host keeps host ready low, a request that finds the reply queue full waits in a slot, and
with both slots full it is discarded with OVERFLOW, where a hunting receiver takes its bytes after START again (R192, log 11, log
27); the end of a frame starts the oldest reply and executes the oldest
waiting request. -/
def Obligations.RequestsWaitOverflowAndAreExecutedLater : Prop :=
  (∀ (s : State) (r : Request) (tag : Byte) (c : Instr), requestCommand tag r = some c → r.wf = true →
    s.inputs.hostReady = false → s.link.replies.length = 2 →
    (s.link.slots.length < 2 →
      exec c s = .next { s with link := { s.link with
        slots := s.link.slots ++ [{ kind := r.code, tag := tag, body := r.body }] } }) ∧
    (2 ≤ s.link.slots.length → s.link.rx ≠ none → exec c s = .next (s.record .linkRxError 4 .warning)) ∧
    (2 ≤ s.link.slots.length → s.link.rx = none →
      ∃ t, TakesBytes (s.record .linkRxError 4 .warning)
          ((LinkFrame.bytes { kind := r.code, tag := tag, body := r.body }).drop 1) t ∧
        exec c s = .next t.transmit)) ∧
  ∀ (s : State) (r : Request) (tag : Byte) (a b : LinkFrame), r.wf = true →
    s.inputs.hostReady = true → s.link.tx ≠ none → s.link.replies = [a, b] →
    s.link.slots = [{ kind := r.code, tag := tag, body := r.body }] →
    let u : State := { s with link := { s.link with tx := some a, replies := [b] } }
    ∃ t, exec .transmitFrameEnd s = .next t ∧
      t = answered { kind := r.code, tag := tag, body := r.body } (perform r u)

/-- R195: host ready and the end of a frame, where no request waits in a slot; and the EVENT and STREAM frames the arbiter
starts (section 11.6), an event's with its record as it stands when the frame begins (R180). -/
def Obligations.ArbiterChoosesRepliesThenEventsThenStream : Prop :=
  (∀ s : State, s.link.slots = [] → exec .transmitFrameEnd s =
    .next ({ s with link := { s.link with tx := none } } : State).transmit) ∧
  (∀ s : State, s.link.slots = [] → ∀ level, exec (.hostReadyChange level) s =
    .next ({ s with inputs := { s.inputs with hostReady := level } } : State).transmit) ∧
  (∀ (e : Events) (k : EventKind) (r : Occurred), e.record k = some r →
    e.frameOf k = LinkFrame.mk 0xC0 0
      ([BitVec.ofNat 8 k.code.val, codeIn [.info, .warning, .testFault, .frameFault] r.cls, BitVec.ofNat 8 r.count] ++
        bytes32 r.time ++ bytes32 r.detail)) ∧
  (∀ r : StreamRecord, r.frame = LinkFrame.mk 0xC1 0
    (bytes32 r.time ++ bytes32 (signed32 r.p) ++ bytes32 (signed32 r.f) ++ bytes32 (signed32 r.eps) ++
      [(match r.stage with
        | some n => BitVec.ofNat 8 n
        | none => 0xFF),
       codeIn [.absent, .fitted, .zeroed, .following, .removing, .derived] r.source,
       BitVec.ofNat 8 (r.held.toNat + 2 * r.fitClosed.toNat + 4 * r.broken.toNat + 8 * r.overRange.toNat),
       codeIn [.undefined, .driveOff, .enabling, .ready, .moving, .testing, .held, .returning, .faulted] r.frameState] ++
      bytes32 (unsigned32 r.lostBefore))) ∧
  ∀ s : State,
    (s.inputs.hostReady = false ∨ s.link.tx ≠ none → s.transmit = s) ∧
    (s.inputs.hostReady = true → s.link.tx = none →
      (∀ r rest, s.link.replies = r :: rest →
        s.transmit = { s with link := { s.link with replies := rest, tx := some r } }) ∧
      (∀ k rest, s.link.replies = [] → s.link.eventQueue = k :: rest →
        s.transmit = { s with link := { s.link with eventQueue := rest, tx := some (s.events.frameOf k) } }) ∧
      (∀ r rest, s.link.replies = [] → s.link.eventQueue = [] → s.link.streamQueue = r :: rest →
        s.transmit = { s with link := { s.link with streamQueue := rest, tx := some r.frame } }) ∧
      (s.link.replies = [] → s.link.eventQueue = [] → s.link.streamQueue = [] → s.transmit = s))

/-- R192, R193 and R191: the receiver hunts for START, assembles, discards, and takes the assembly's bytes again (within the same
command, log 27). What the bytes taken since START make: a LENGTH above 240 is discarded at once with reason 1; the frame is
whole with the second byte of its check, and a check that is not that of the bytes from LENGTH to the body is reason 3. -/
def Obligations.ReceiverHuntsAndAssembles : Prop :=
  (∀ (length : Byte) (rest : List Byte), 240 < length.toNat → assemblyOf (length :: rest) = .bad 1) ∧
  (∀ (length : Byte) (rest : List Byte), length.toNat ≤ 240 → rest.length < length.toNat + 4 →
    assemblyOf (length :: rest) = .more) ∧
  (∀ (length kind tag low high : Byte) (body : List Byte), length.toNat ≤ 240 → body.length = length.toNat →
    assemblyOf (length :: kind :: tag :: (body ++ [low, high])) =
      if crc16 (length :: kind :: tag :: body) = high ++ low then .good { kind := kind, tag := tag, body := body }
      else .bad 3) ∧
  (∀ (s : State) (b : Byte), ∃ t, TakesBytes s [b] t ∧ exec (.hostByte b) s = .next t.transmit) ∧
  (∀ (s : State) (got : List Byte), s.link.rx = some got →
    ∃ t, TakesBytes (({ s with link := { s.link with rx := none, rxTimer := none } } : State).record .linkRxError 2 .warning)
        got t ∧
      exec .rxByteTimerExpiry s = .next t.transmit) ∧
  (∀ s : State, s.link.rx = none → exec .rxByteTimerExpiry s = .next s.transmit) ∧
  (∀ (s : State) (b : Byte), s.link.rx = none → b ≠ 0xA5 → exec (.hostByte b) s = .next s.transmit) ∧
  (∀ s : State, s.link.rx = none →
    exec (.hostByte 0xA5) s = .next ({ s with link := { s.link with rx := some [], rxTimer := some 5 } } :
      State).transmit) ∧
  (∀ (s : State) (b : Byte) (got : List Byte), s.link.rx = some got → assemblyOf (got ++ [b]) = .more →
    exec (.hostByte b) s = .next ({ s with link := { s.link with rx := some (got ++ [b]), rxTimer := some 5 } } :
      State).transmit) ∧
  (∀ (s : State) (b : Byte) (got : List Byte) (reason : Nat), s.link.rx = some got → 0xA5 ∉ got ++ [b] →
    (assemblyOf (got ++ [b]) = .bad reason ∨
      (∃ f, assemblyOf (got ++ [b]) = .good f) ∧ 2 ≤ s.link.slots.length ∧ reason = 4) →
    exec (.hostByte b) s = .next ((({ s with link := { s.link with rx := none, rxTimer := none } } :
      State).record .linkRxError (BitVec.ofNat 32 reason) .warning).transmit)) ∧
  ∀ (s : State) (got : List Byte), s.link.rx = some got → 0xA5 ∉ got →
    exec .rxByteTimerExpiry s = .next ((({ s with link := { s.link with rx := none, rxTimer := none } } :
      State).record .linkRxError 2 .warning).transmit)

/-- R191, R192, R193, R194 and section 11.1: the bytes of a request's frame, taken one after another by a hunting receiver, do what
the arrival of the request does. A frame's bytes are START, LENGTH, KIND, TAG, the body and the check, low byte first; the check
starts from 0xFFFF and takes each byte most significant bit first, with the generator 0x1021. -/
def Obligations.BytesOfARequestAreItsArrival : Prop :=
  (∀ f : LinkFrame,
    let covered : List Byte := BitVec.ofNat 8 f.body.length :: f.kind :: f.tag :: f.body
    f.bytes = 0xA5 :: covered ++ [(crc16 covered).extractLsb' 0 8, (crc16 covered).extractLsb' 8 8]) ∧
  (crc16 [] = 0xFFFF ∧ ∀ (bytes : List Byte) (b : Byte), crc16 (bytes ++ [b]) =
    [7, 6, 5, 4, 3, 2, 1, 0].foldl
      (fun (c : BitVec 16) (i : Nat) => if c.getLsbD 15 = b.getLsbD i then c <<< 1 else (c <<< 1) ^^^ 0x1021) (crc16 bytes)) ∧
  ∀ (s : State) (r : Request) (tag : Byte) (c : Instr), requestCommand tag r = some c → r.wf = true →
    s.free → s.link.rx = none → s.link.rxTimer = none → s.transmit = s →
    runAll ((LinkFrame.bytes { kind := r.code, tag := tag, body := r.body }).map .hostByte) s = exec c s

/-- Section 11.6: reading the code and body of a well-formed request gives the request back, with every field at every value
its layout admits. -/
def Obligations.RequestCodecRoundTrip : Prop :=
  ∀ r : Request, r.wf = true → readRequest r.code r.body = .request r

/-! ### Stages -/

/-- R113, R114, R115, R116 and R118: the sequencer takes a test point; and what the end of a stage does for each cause (1 and 2 for the
end conditions, 3 for NEXT_STAGE): it is dropped at a test point that has already ended a stage, it enters the next stage, or it
ends the test after the last one. An end condition is looked at where the point was made in TESTING and the frame is TESTING
(log 42); a force stage whose converted rate is 0 gives TARGET no direction (log 41). -/
def Obligations.SequencerTestPointEndsTheStageOrTheTest : Prop :=
  (∀ (s : State) (time : Word32) (cause n : Nat) (p : Program), 1 ≤ cause → s.seq.stage = some n → s.program = some p →
    let b : State := { s with seq := { s.seq with lastEnd := some time } }
    (s.seq.lastEnd = some time → s.stageEnd time cause = s) ∧
    (s.seq.lastEnd ≠ some time → p.stages.length ≤ n + 1 → s.stageEnd time cause = b.endTest .completedNoBreak 0) ∧
    ∀ g, s.seq.lastEnd ≠ some time → p.stages[n + 1]? = some g →
      let loaded := match g.end1.kind, g.end2.kind with
        | .stageTime, .stageTime => some (min g.end1.value.toNat g.end2.value.toNat)
        | .stageTime, _ => some g.end1.value.toNat
        | _, .stageTime => some g.end2.value.toNat
        | _, _ => none
      let entered : State := { b with seq := { b.seq with
        stage := some (n + 1)
        timeMark := false
        timer := match loaded with
          | none => .stopped
          | some t => if s.frame.state = .held ∧ p.timersInHold = .stop then .paused t else .running t } }
      let told := entered.record .stageEntered (BitVec.ofNat 32 (n + 1 + 256 * cause)) .info
      s.stageEnd time cause =
        if p.removeBefore = some (n + 1) then { told with mail := told.mail ++ [.namedStage] } else told) ∧
  (∀ s : State, s.points.sequencer = [] → exec .sequencerTestPoint s = .next s.transmit) ∧
  ∀ (s : State) (x : Point) (rest : List Point), s.points.sequencer = x :: rest →
    let b : State := { s with points := { s.points with sequencer := rest } }
    (s.inTest = false → exec .sequencerTestPoint s = .next b.transmit) ∧
    (s.inTest = true → s.force.breakFlag = true →
      exec .sequencerTestPoint s =
        .next (({ b with force := { s.force with breakFlag := false } } : State).endTest .completedBreak 0).transmit) ∧
    (s.force.breakFlag = false → s.frame.state = .held ∨ x.held = true →
      exec .sequencerTestPoint s = .next b.transmit) ∧
    ∀ (n : Nat) (g : Stage), s.frame.state = .testing → s.force.breakFlag = false → x.held = false →
      s.seq.stage = some n → s.stageAt n = some g →
      let y := match g.channel with
        | .position => x.p
        | .force => x.f
        | .strain => x.eps
      let met (e : EndCondition) : Prop := match e.kind with
        | .never => False
        | .target => 0 < g.rate ∧ e.value ≤ y ∨ g.rate < 0 ∧ y ≤ e.value
        | .forceAbove => e.value ≤ x.f
        | .forceBelow => x.f ≤ e.value
        | .strainAbove => e.value ≤ x.eps
        | .displacementAbove => e.value ≤ x.d
        | .stageTime => s.seq.timeMark = true
        | .yieldFound => s.seq.yieldMark = true
        | .fmaxPassed => s.seq.fmaxMark = true
      (met g.end1 → exec .sequencerTestPoint s = .next (b.stageEnd x.time 1).transmit) ∧
      (¬met g.end1 → met g.end2 → exec .sequencerTestPoint s = .next (b.stageEnd x.time 2).transmit) ∧
      (¬met g.end1 → ¬met g.end2 → exec .sequencerTestPoint s = .next b.transmit)

/-- R117 and R131: the two notices set their marks; NEXT_STAGE ends the stage in force with entry cause 3 (what the end of a stage
does is said in SequencerTestPointEndsTheStageOrTheTest). It is the oldest action on its way, or, with none, one of the latest
point (log 6). Outside a test there is no mark to set and no stage to end (log 22). -/
def Obligations.NoticesSetMarksAndNextStageEndsTheStage : Prop :=
  (∀ s : State,
    let b : State := { s with mail := s.mail.erase .yieldFound }
    exec .yieldNotice s = .next (
      if s.inTest then ({ b with seq := { s.seq with yieldMark := true } } : State).transmit else b.transmit)) ∧
  (∀ s : State,
    let b : State := { s with mail := s.mail.erase .fmaxPassed }
    exec .fmaxPassedNotice s = .next (
      if s.inTest then ({ b with seq := { s.seq with fmaxMark := true } } : State).transmit else b.transmit)) ∧
  (∀ (s : State) (time : Word32) (before after : List Notice), s.mail = before ++ .nextStage time :: after →
    (∀ t, .nextStage t ∉ before) →
    let b : State := { s with mail := before ++ after }
    exec .nextStage s = .next (if s.inTest then (b.stageEnd time 3).transmit else b.transmit)) ∧
  ∀ s : State, (∀ t, .nextStage t ∉ s.mail) →
    exec .nextStage s =
      .next (if s.inTest then (s.stageEnd s.servo.latest.time 3).transmit else s.transmit)

/-! ### Watches -/

/-- R128, R129, R130, R131 and R132: the watch unit takes a test point. Every enabled entry is examined; a firing entry takes
its action. Two or more firing entries raise their events and take their actions in the order of their indices: a NEXT_STAGE and a
REMOVE_EXT are sent, and a HOLD acts after every NEXT_STAGE on its way has been taken by the sequencer (log 6). Where an END_TEST
entry fires, a REMOVE_EXT begins the removal before the test ends (R94, log 21), and no firing entry holds the test or changes
its stage. -/
def Obligations.WatchTestPointFiresOnCrossings : Prop :=
  (∀ s : State, s.points.watch = [] → exec .watchTestPoint s = .next s.transmit) ∧
  (∀ s : State,
    let times := s.mail.filterMap fun n => match n with
      | .nextStage time => some time
      | _ => none
    s.settleStages = times.foldl (fun (r : State) time =>
      let b : State := { r with mail := r.mail.erase (.nextStage time) }
      if r.inTest then b.stageEnd time 3 else b) s) ∧
  ∀ (s : State) (x : Point) (rest : List Point), s.points.watch = x :: rest →
    let value (w : Watch) : Int := match w.quantity with
      | .force => x.f
      | .strain => x.eps
      | .displacement => x.d
      | .position => x.p
      | .testTime => x.testTime.toNat
    let fires (w : Watch) : Prop := w.enabled = true ∧ w.state = .armed ∧ ∃ before, w.previous = some before ∧
      match w.direction with
      | .rising => before < w.level ∧ w.level ≤ value w
      | .falling => w.level < before ∧ value w ≤ w.level
    let comesBack (w : Watch) : Prop := w.state = .fired ∧ w.rearm = .rearm ∧
      match w.direction with
      | .rising => value w ≤ w.level - w.hysteresis
      | .falling => w.level + w.hysteresis ≤ value w
    let off (w : Watch) : Prop := w.enabled = false
    (s.inTest = false → exec .watchTestPoint s =
      .next ({ s with points := { s.points with watch := rest } } : State).transmit) ∧
    ∀ watches : Vector Watch 5, s.inTest = true →
      (∀ i (h : i < 5), let w := s.watches[i]
        (off w → watches[i] = w) ∧
        (w.enabled = true → fires w → watches[i] = { w with previous := some (value w), state := .fired }) ∧
        (w.enabled = true → comesBack w → watches[i] = { w with previous := some (value w), state := .armed }) ∧
        (w.enabled = true → ¬fires w → ¬comesBack w → watches[i] = { w with previous := some (value w) })) →
      let b : State := { s with points := { s.points with watch := rest }, watches := watches }
      ((∀ i (h : i < 5), ¬fires s.watches[i]) → exec .watchTestPoint s = .next b.transmit) ∧
      (∀ i (h : i < 5), fires s.watches[i] → (∀ j (hj : j < 5), j ≠ i → ¬fires s.watches[j]) →
        let told := b.record .watchFired (BitVec.ofNat 32 i) .info
        exec .watchTestPoint s = .next (match s.watches[i].action with
          | .notify => told.transmit
          | .hold => (told.settleStages.setHold .watch).transmit
          | .nextStage => ({ told with mail := told.mail ++ [.nextStage x.time] } : State).transmit
          | .endTest => (told.endTest .endedByWatch 0).transmit
          | .removeExt => ({ told with mail := told.mail ++ [.watchRemoval] } : State).transmit)) ∧
      ∀ fired : List Nat, fired.Pairwise (· < ·) → (∀ i, i ∈ fired ↔ ∃ h : i < 5, fires s.watches[i]) →
        let told := fired.foldl (fun r i => r.record .watchFired (BitVec.ofNat 32 i) .info) b
        let takes (a : WatchAction) : Prop := ∃ i ∈ fired, s.watches[i]?.map (·.action) = some a
        let act (r : State) (i : Nat) : State := match (s.watches[i]?.map (·.action) : Option WatchAction) with
          | some .hold => r.settleStages.setHold .watch
          | some .nextStage => { r with mail := r.mail ++ [.nextStage x.time] }
          | some .removeExt => { r with mail := r.mail ++ [.watchRemoval] }
          | _ => r
        (¬takes .endTest → exec .watchTestPoint s = .next (fired.foldl act told).transmit) ∧
        (takes .endTest → ¬takes .removeExt ∨ s.strain.state ≠ .following →
          exec .watchTestPoint s = .next (told.endTest .endedByWatch 0).transmit) ∧
        ∀ p, s.program = some p → takes .endTest → takes .removeExt → s.strain.state = .following →
          exec .watchTestPoint s = .next ((({ told with strain := { s.strain with
            state := .removing, pendingSwitch := some s.servo.latest.eps, removalStrain := some s.servo.latest.eps,
            switchCount := s.strain.switchCount + 1, ofTest := true, timer := some p.removalTime,
            removalTime := p.removalTime, removalBegan := s.clock } } : State).endTest .endedByWatch 0).transmit)

/-! ### Evaluation -/

/-- R159, R160, R161, R162, R163, R164, R165 and R166: the evaluation unit takes a test point: energy and maximum force at every one,
only these once a break is captured, and the points and the verdict of the elastic fit, which a held point neither joins nor
closes and no point changes outside ELASTIC or once the fit has closed. -/
def Obligations.EvaluationSumsEnergyMaximumAndFit : Prop :=
  (∀ s : State, s.points.evaluation = [] → exec .evaluationTestPoint s = .next s.transmit) ∧
  ∀ (s : State) (x : Point) (rest : List Point) (p : Program), s.points.evaluation = x :: rest → s.program = some p →
    fits 32 x.f = true → fits 32 x.eps = true → fits 32 x.d = true → fits 32 s.eval.prevD = true →
    let b : State := { s with points := { s.points with evaluation := rest } }
    let higher : Prop := ∀ m, s.eval.fmax = some m → m < x.f
    let first : Evaluation := { s.eval with
      energy := sat64 (s.eval.energy + x.f * (x.d - s.eval.prevD)), prevD := x.d,
      fmax := if higher then some x.f else s.eval.fmax, agt := if higher then some x.eps else s.eval.agt }
    let elastic : Prop := s.eval.phase = .elastic ∧ s.eval.fit = .opened ∧ x.held = false
    (s.inTest = false → exec .evaluationTestPoint s = .next b.transmit) ∧
    (s.inTest = true → ∃ t, exec .evaluationTestPoint s = .next t ∧
      t.eval.energy = first.energy ∧ t.eval.prevD = x.d ∧ t.eval.fmax = first.fmax ∧ t.eval.agt = first.agt ∧
      (¬elastic → t.eval.n = s.eval.n ∧ t.eval.sumE = s.eval.sumE ∧ t.eval.sumF = s.eval.sumF ∧
        t.eval.sumEE = s.eval.sumEE ∧ t.eval.sumEF = s.eval.sumEF ∧ t.eval.overflow = s.eval.overflow ∧
        t.eval.fit = s.eval.fit ∧ t.eval.slope = s.eval.slope ∧ t.eval.intercept = s.eval.intercept ∧
        t.eval.modulus = s.eval.modulus ∧ t.events.record .fitClosed = s.events.record .fitClosed ∧
        t.events.record .fitInvalid = s.events.record .fitInvalid)) ∧
    (s.inTest = true → s.force.capture.isSome = true →
      exec .evaluationTestPoint s = .next ({ b with eval := first } : State).transmit) ∧
    (s.inTest = true → s.force.capture = none → elastic → s.eval.tracking = none → x.f < s.eval.fLo → x.f ≤ s.eval.fHi →
      exec .evaluationTestPoint s = .next ({ b with eval := first } : State).transmit) ∧
    (s.inTest = true → s.force.capture = none → elastic → s.eval.tracking = none → s.eval.fLo ≤ x.f → x.f ≤ s.eval.fHi →
      exec .evaluationTestPoint s = .next (({ b with
        eval := if s.eval.overflow then first
        else if fits 64 (s.eval.n + 1) ∧ fits 64 (s.eval.sumE + x.eps) ∧ fits 64 (s.eval.sumF + x.f) ∧
            fits 64 (s.eval.sumEE + x.eps * x.eps) ∧ fits 64 (s.eval.sumEF + x.eps * x.f) then
          { first with n := s.eval.n + 1, sumE := s.eval.sumE + x.eps, sumF := s.eval.sumF + x.f,
                       sumEE := s.eval.sumEE + x.eps * x.eps, sumEF := s.eval.sumEF + x.eps * x.f }
        else { first with overflow := true } } : State).transmit)) ∧
    (s.inTest = true → s.force.capture = none → elastic → s.eval.fHi < x.f →
      let num := form128 (s.eval.n * s.eval.sumEF - s.eval.sumE * s.eval.sumF)
      let den := form128 (s.eval.n * s.eval.sumEE - s.eval.sumE * s.eval.sumE)
      let slope := roundDiv (form128 (65536 * num)) den
      let good : Prop := s.eval.overflow = false ∧ 20 ≤ s.eval.n ∧ 0 < den ∧ 0 < slope
      let code : Nat := if s.eval.overflow then 1 else if s.eval.n < 20 then 2 else if den ≤ 0 then 3 else 4
      ∃ t, exec .evaluationTestPoint s = .next t ∧
        t = { s with points := { s.points with evaluation := rest }, eval := t.eval, events := t.events,
                     link := t.link, mail := t.mail } ∧
        (s.eval.tracking = none → t.eval.tracking = some { peak := x.f, eps := x.eps }) ∧ t.eval.n = s.eval.n ∧
        t.events.record .fitClosed = some (s.events.oneMore .fitClosed s.clock (unsigned32 s.eval.n) .info) ∧
        (good → t.eval.fit = .valid ∧ t.eval.slope = some slope ∧
          t.eval.intercept = some (roundDiv (form128 (s.eval.sumF * den - num * s.eval.sumE)) (form128 (s.eval.n * den))) ∧
          t.eval.modulus = some (roundDiv (form128 (num * 10000000)) (form128 (den * s.s0))) ∧
          t.events.record .fitInvalid = s.events.record .fitInvalid) ∧
        (¬good → t.eval.fit = .invalid ∧ t.eval.slope = s.eval.slope ∧ t.eval.intercept = s.eval.intercept ∧
          t.eval.modulus = s.eval.modulus ∧
          t.events.record .fitInvalid = some (s.events.oneMore .fitInvalid s.clock (BitVec.ofNat 32 code) .warning)))

/-- R166, R167, R168, R169, R170, R171 and R172: upper yield, offset yield, the plateau and necking at a test point that does not close
the fit (what the closing point does is said in EvaluationSumsEnergyMaximumAndFit), with the fit OPEN, VALID or INVALID. A point that lowers the tracker does not end the plateau; that a first point after the guard, or a point back inside the guard with the tracker
present, may end it is the model's reading (log 33). -/
def Obligations.EvaluationFindsYieldAndNecking : Prop :=
  ∀ (s : State) (x : Point) (rest : List Point) (p : Program), s.points.evaluation = x :: rest → s.program = some p →
    s.inTest = true → s.force.capture = none →
    ¬(s.eval.phase = .elastic ∧ s.eval.fit = .opened ∧ x.held = false ∧ s.eval.fHi < x.f) →
    let climbed (r : Int) : Prop := form64 (r * (1000 + p.margin)) ≤ form64 (x.f * 1000)
    let fallen (m : Int) : Prop := form64 (x.f * 1000) ≤ form64 (m * (1000 - p.neckingThreshold))
    let top : Int := match s.eval.fmax with
      | some m => max m x.f
      | none => x.f
    let here : Candidate := { peak := x.f, eps := x.eps }
    let line (m k : Int) : Int := roundDiv (form64 (m * (x.eps - p.rpOffset))) 65536 + k
    ∃ t, exec .evaluationTestPoint s = .next t ∧
      t = { s with points := { s.points with evaluation := rest }, eval := t.eval, events := t.events, link := t.link,
                   mail := t.mail } ∧
      (s.eval.phase = .elastic → s.eval.tracking = none → s.eval.fit ≠ .opened ∨ s.eval.fHi < x.f →
        t.eval.tracking = some here) ∧
      (s.eval.phase = .elastic → s.eval.tracking = none → s.eval.fit = .opened → x.f ≤ s.eval.fHi →
        t.eval.tracking = none ∧ t.eval.phase = .elastic ∧ t.eval.reH = s.eval.reH) ∧
      (∀ c, s.eval.phase = .elastic → s.eval.tracking = some c →
        t.eval.tracking = some (if c.peak < x.f then here else c)) ∧
      (s.eval.phase = .elastic → (∀ c, s.eval.tracking = some c → c.peak < x.f) →
        0 < x.f → fits 32 x.f = true → 1 ≤ p.yieldDrop → p.yieldDrop ≤ 50 →
          t.eval.reH = s.eval.reH ∧ t.eval.phase ≠ .discontinuous) ∧
      (∀ c, s.eval.phase = .elastic → s.eval.tracking = some c → x.f ≤ c.peak →
        form64 (x.f * 1000) ≤ form64 (c.peak * (1000 - p.yieldDrop)) →
          t.eval.reH = some c.peak ∧ t.eval.epsReH = some c.eps ∧ t.eval.guardEnd = some (c.eps + p.guardStrain) ∧
          t.eval.path = .discontinuous ∧ t.eval.phase ≠ .elastic ∧ .yieldFound ∈ t.mail ∧
          t.events.record .yieldFound = some (s.events.oneMore .yieldFound s.clock 1 .info)) ∧
      (∀ c, s.eval.phase = .elastic → s.eval.tracking = some c → x.f ≤ c.peak →
        form64 (c.peak * (1000 - p.yieldDrop)) < form64 (x.f * 1000) →
          t.eval.reH = s.eval.reH ∧ t.eval.phase ≠ .discontinuous) ∧
      (∀ c m k, s.eval.phase = .elastic → s.eval.tracking = some c → x.f ≤ c.peak →
        form64 (c.peak * (1000 - p.yieldDrop)) < form64 (x.f * 1000) → s.eval.fit = .valid → s.eval.rp = none →
        s.eval.slope = some m → s.eval.intercept = some k → x.f ≤ line m k →
          t.eval.rp = some x.f ∧ t.eval.path = .continuous ∧ t.eval.phase ≠ .elastic ∧ t.eval.plateau = s.eval.plateau ∧
          .yieldFound ∈ t.mail ∧
          t.events.record .yieldFound = some (s.events.oneMore .yieldFound s.clock 2 .info)) ∧
      (∀ m k, s.eval.fit = .valid → s.eval.rp = none → s.eval.slope = some m → s.eval.intercept = some k →
        t.eval.rp = if x.f ≤ line m k then some x.f else none) ∧
      (s.eval.fit ≠ .valid ∨ s.eval.rp ≠ none → t.eval.rp = s.eval.rp) ∧
      (s.eval.phase = .discontinuous ∨ s.eval.phase = .hardening ∨ s.eval.phase = .necking →
        t.eval.path = s.eval.path ∧ t.events.record .yieldFound = s.events.record .yieldFound ∧
        (t.mail = s.mail ∨ t.mail = s.mail ++ [.fmaxPassed, .necking])) ∧
      (∀ g start, s.eval.phase = .discontinuous → s.eval.guardEnd = some g → s.eval.epsReH = some start →
        let ends : Prop := t.eval.ae = some (x.eps - start) ∧ t.eval.plateau = .ended ∧ t.eval.phase ≠ .discontinuous
        let goesOn : Prop := t.eval.ae = s.eval.ae ∧
          (fallen top → t.eval.plateau = .cutShort) ∧
          (¬fallen top → t.eval.plateau = s.eval.plateau ∧ t.eval.phase = .discontinuous)
        (x.eps < g → t.eval.reL = s.eval.reL ∧
          (s.eval.reL = none → goesOn) ∧ ∀ r, s.eval.reL = some r → (climbed r → ends) ∧ (¬climbed r → goesOn)) ∧
        (∀ h, g ≤ x.eps → s.eval.reL = none → s.eval.reH = some h →
          (x.f < h → t.eval.reL = some x.f ∧ (climbed x.f → ends) ∧ (¬climbed x.f → goesOn)) ∧
          (h ≤ x.f → t.eval.reL = none ∧ t.eval.ae = s.eval.ae ∧ t.eval.plateau = .cutShort ∧
            t.eval.phase ≠ .discontinuous)) ∧
        ∀ r, g ≤ x.eps → s.eval.reL = some r →
          (x.f < r → t.eval.reL = some x.f ∧ goesOn) ∧
          (r ≤ x.f → t.eval.reL = some r ∧ (climbed r → ends) ∧ (¬climbed r → goesOn))) ∧
      (s.eval.phase = .discontinuous ∨ s.eval.phase = .hardening →
        (fallen top →
          t.eval.phase = .necking ∧ .fmaxPassed ∈ t.mail ∧ .necking ∈ t.mail ∧
          t.events.record .fmaxPassed =
            some (s.events.oneMore .fmaxPassed s.clock (signed32 (roundDiv top 1000)) .info)) ∧
        (¬fallen top →
          t.eval.phase ≠ .necking ∧ t.events.record .fmaxPassed = s.events.record .fmaxPassed ∧
          (s.eval.phase = .hardening → t.eval.phase = .hardening))) ∧
      (s.eval.phase = .necking ∨ s.eval.phase = .ended → t.eval.phase = s.eval.phase)

/-! ### Removal, loss, and the ends of a test -/

/-- R93, R94, R96 and R97: the four removal triggers begin the removal in FOLLOWING during a test and have no effect in any
other state; the retracted input ends it; the removal timer's expiry has the effect of its class (the clock of the beginning is the
model's, log 29 and log 34). -/
def Obligations.RemovalRunsFromItsTriggerToItsEnd : Prop :=
  (∀ (s : State) (p : Program), s.program = some p →
    let triggered (b : State) : State :=
      if (s.frame.state = .testing ∨ s.frame.state = .held) ∧ s.strain.state = .following then
        { b with strain := { s.strain with
            state := .removing, pendingSwitch := some s.servo.latest.eps, removalStrain := some s.servo.latest.eps,
            switchCount := s.strain.switchCount + 1, ofTest := true, timer := some p.removalTime,
            removalTime := p.removalTime, removalBegan := s.clock } }
      else b
    let without (n : Notice) : State := { s with mail := s.mail.erase n }
    (∀ x rest, s.points.removal = x :: rest →
      let b : State := { s with points := { s.points with removal := rest } }
      (∀ level, p.removalStrain = some level → level ≤ x.eps →
        exec .removalTriggerTestPoint s = .next (triggered b).transmit) ∧
      ((∀ level, p.removalStrain = some level → x.eps < level) →
        exec .removalTriggerTestPoint s = .next b.transmit)) ∧
    exec .neckingNotice s = .next (
      if p.removeAtNecking then (triggered (without .necking)).transmit else (without .necking).transmit) ∧
    exec .namedStageNotice s = .next (triggered (without .namedStage)).transmit ∧
    exec .watchRemovalTrigger s = .next (triggered (without .watchRemoval)).transmit) ∧
  (∀ s : State, .strainSourceTestEnd ∉ s.mail →
    let seen : State := { s with inputs := { s.inputs with retracted := true } }
    exec .retractedInputRises s = .next (
      if s.strain.state = .removing then
        (({ seen with strain := { s.strain with
            state := if s.frame.state = .testing ∨ s.frame.state = .held then .derived
              else if s.ext.state = .locked then .fitted else .absent
            timer := none, ofTest := false } } : State).record .extRemoved (s.clock - s.strain.removalBegan)
          .info).transmit
      else seen.transmit)) ∧
  ∀ (s : State) (left : Nat), s.strain.state = .removing → s.strain.timer = some left →
    let r := ({ s with strain := { s.strain with timer := none } } : State).record .extRemovalTimeout
      (BitVec.ofNat 32 s.strain.removalTime)
      (if s.events.severities.extRemovalTimeout = .testFault then .testFault else .warning)
    exec .removalTimerExpiry s = .next (
      if s.events.severities.extRemovalTimeout = .testFault then
        if s.frame.state = .testing ∨ s.frame.state = .held then (r.endTest .testFault 22).transmit else r.transmit
      else if s.strain.ofTest then (r.setHold .removal).transmit else r.transmit)

/-- R66, R102, R88, R72, R98 and R99: the arrivals of a test's end, and the receiver's lock and presence at the strain
source. -/
def Obligations.TestEndsLocksAndPresenceArrive : Prop :=
  (∀ s : State, s.inTest = false →
    exec .breakDetectionTestEnd s = .next ({ s with
      mail := s.mail.erase .breakDetectionTestEnd
      force := { s.force with armed := false, breakFlag := false } } : State).transmit ∧
    exec .strainSourceTestEnd s = .next ({ s with
      mail := s.mail.erase .strainSourceTestEnd
      strain := if s.strain.state = .following ∨ s.strain.state = .derived ∨ s.strain.state = .removing then
          { s.strain with
            state := if s.strain.state = .removing then .removing
              else if s.ext.state = .locked then .fitted else .absent
            zero := none, gauge := none, pendingSwitch := none, ofTest := false }
        else s.strain } : State).transmit) ∧
  (∀ s : State,
    exec .receiverEntersLocked s = .next ({ s with
      mail := s.mail.erase .receiverEntersLocked
      strain := { s.strain with state := if s.strain.state = .absent then .fitted else s.strain.state } } :
        State).transmit ∧
    exec .receiverLeavesLocked s = .next ({ s with
      mail := s.mail.erase .receiverLeavesLocked
      strain := { s.strain with state := if s.strain.state = .fitted then .absent else s.strain.state } } :
        State).transmit ∧
    exec .presenceAsserted s = .next ({ s with
      inputs := { s.inputs with presence := true }
      ext := if s.ext.state = .inhibited then
          { s.ext with state := .hunt, place := 0, body := [], timer := none, badCount := 0 }
        else s.ext } : State).transmit) ∧
  ∀ s : State, .receiverEntersLocked ∉ s.mail → .receiverLeavesLocked ∉ s.mail →
    let b : State := { s with
      inputs := { s.inputs with presence := false }
      ext := { state := .inhibited, place := 0, body := [], timer := none, seqRef := none, badCount := 0,
               pendingDrop := 0, fifo := [], latest := none } }
    (s.strain.state = .absent ∨ s.strain.state = .removing ∨ s.strain.state = .derived →
      exec .presenceDeasserted s = .next b.transmit) ∧
    (s.strain.state = .fitted ∨ s.strain.state = .zeroed →
      exec .presenceDeasserted s = .next ({ b with
        strain := { s.strain with state := .absent, zero := none, gauge := none } } : State).transmit) ∧
    (s.strain.state = .following →
      let lost : State := { b with strain := { s.strain with
        state := .derived, pendingSwitch := some s.servo.latest.eps, switchCount := s.strain.switchCount + 1 } }
      (s.events.severities.extLost = .warning →
        exec .presenceDeasserted s = .next (
          if s.program.map (·.extLostAction) = some .hold then
            ((lost.record .extLost 1 .warning).setHold .extLost).transmit
          else (lost.record .extLost 1 .warning).transmit)) ∧
      (s.events.severities.extLost = .testFault → s.inTest = true →
        exec .presenceDeasserted s = .next ((lost.record .extLost 1 .testFault).endTest .testFault 21).transmit))

/-! ### The extensometer receiver -/

/-- R71 to R81: the receiver takes a byte in each of its states, and its byte timer expires; the check, the elongation, the
sequence and the over-travel indication are read of the five body bytes of a frame. A sample that finds four records in
the FIFO is dropped and the pending drop count rises by 1 plus the lost count of the dropped sample, as R81 words it, against
the overrun table of section 4.5 (log 43). -/
def Obligations.ReceiverStatesTakeBytes : Prop :=
  (∀ e0 e1 e2 status check : Byte,
    let body := [e0, e1, e2, status, check]
    let number : Int := e0.toNat + 256 * e1.toNat + 65536 * e2.toNat
    (checkGood body = true ↔ (e0.toNat + e1.toNat + e2.toNat + status.toNat + check.toNat) % 256 = 0) ∧
    elongationOf body = (if number < 8388608 then number else number - 16777216) ∧
    (sequenceOf body).toNat = status.toNat % 16 ∧ overtravelOf body = decide (status.toNat / 16 % 2 = 1)) ∧
  ∀ (s : State) (b : Byte),
    let hunt (r : Receiver) : Receiver :=
      { r with state := .hunt, place := 0, body := [], timer := none, badCount := 0 }
    let again (r : Receiver) : Receiver :=
      if b = 0xB5 then { r with state := .syncA, place := 2, body := [], timer := some 2 } else r
    let taken : Receiver := { s.ext with body := s.ext.body ++ [b], place := s.ext.place + 1, timer := some 2 }
    let start (st : ReceiverState) (r : Receiver) : Receiver := { r with state := st, place := 1, body := [], timer := some 2 }
    let put (x : Sample) (r : Receiver) : Receiver :=
      if s.ext.fifo.length < 4 then { r with fifo := s.ext.fifo ++ [x], pendingDrop := 0, latest := some x }
      else { r with pendingDrop := min 255 (s.ext.pendingDrop + (1 + x.lost)), latest := some x }
    let is (r : Receiver) : Prop := exec (.extByte b) s = .next ({ s with ext := r } : State).transmit
    let body := s.ext.body ++ [b]
    let good : Prop := checkGood body = true
    (s.ext.state = .inhibited → is s.ext) ∧
    (s.ext.state = .hunt → is (again s.ext)) ∧
    (s.ext.state = .syncA →
      is (if b = 0x4E then { s.ext with state := .first, place := 3, body := [], timer := some 2 }
        else again (hunt s.ext))) ∧
    (s.ext.state = .first → s.ext.place < 7 → is taken) ∧
    (s.ext.state = .first → s.ext.place = 7 →
      is (if good then { start .confirm s.ext with seqRef := some (sequenceOf body) } else hunt s.ext)) ∧
    (∀ sync, (s.ext.place = 1 ∧ sync = 0xB5 ∨ s.ext.place = 2 ∧ sync = 0x4E) →
      (b = sync → s.ext.state = .confirm ∨ s.ext.state = .locked →
        is { s.ext with place := s.ext.place + 1, timer := some 2 }) ∧
      (b ≠ sync → s.ext.state = .confirm → is (again { hunt s.ext with seqRef := none })) ∧
      (b ≠ sync → s.ext.state = .locked →
        let told := s.record .extSlip (BitVec.ofNat 32 (b.toNat + 256 * s.ext.place)) .warning
        exec (.extByte b) s = .next ({ told with ext := again (hunt s.ext),
                                                 mail := s.mail ++ [.receiverLeavesLocked] } : State).transmit)) ∧
    (s.ext.state = .confirm ∨ s.ext.state = .locked → 3 ≤ s.ext.place → s.ext.place < 7 → is taken) ∧
    (s.ext.state = .confirm ∨ s.ext.state = .locked → s.ext.place = 7 → good →
      let loss := match s.ext.seqRef with
        | some r => (sequenceOf body - r - 1).toNat
        | none => 0
      let lost := min 255 (loss + s.ext.pendingDrop)
      let x : Sample := { elongation := elongationOf body, checkBad := false, overtravel := overtravelOf body,
                          gap := decide (0 < lost), lost := lost }
      exec (.extByte b) s = .next ({ s with
        ext := put x { start .locked s.ext with seqRef := some (sequenceOf body), badCount := 0 }
        mail := if s.ext.state = .confirm then s.mail ++ [.receiverEntersLocked] else s.mail } : State).transmit) ∧
    (s.ext.state = .confirm → s.ext.place = 7 → ¬good → is { hunt s.ext with seqRef := none }) ∧
    (s.ext.state = .locked → s.ext.place = 7 → ¬good →
      let lost := min 255 s.ext.pendingDrop
      let x : Sample := { elongation := elongationOf body, checkBad := true, overtravel := overtravelOf body,
                          gap := decide (0 < lost), lost := lost }
      let told := s.record .extCheck (BitVec.ofNat 32 (s.ext.badCount + 1)) .warning
      let offered := put x { start .locked s.ext with badCount := s.ext.badCount + 1 }
      exec (.extByte b) s = .next (
        if 3 ≤ s.ext.badCount + 1 then
          ({ told with ext := hunt offered, mail := s.mail ++ [.receiverLeavesLocked] } : State).transmit
        else ({ told with ext := offered } : State).transmit)) ∧
    (s.ext.state = .inhibited ∨ s.ext.state = .hunt → exec .extByteTimerExpiry s = .next s.transmit) ∧
    (s.ext.state = .syncA ∨ s.ext.state = .first ∨ s.ext.state = .confirm →
      exec .extByteTimerExpiry s = .next ({ s with ext := { hunt s.ext with seqRef := none } } : State).transmit) ∧
    (s.ext.state = .locked →
      exec .extByteTimerExpiry s = .next ({ s with ext := hunt s.ext, mail := s.mail ++ [.receiverLeavesLocked] } :
        State).transmit)

/-! ### The force channel -/

/-- R51 to R54, R58, R60 to R65: a conversion, over-range or not: linearisation, the filter, the overload level with its event,
FORCE_OVERRANGE at the first conversion of a run and at every one of a test, the program force limit, and the peak, arming and
break detection of a test (the mark of a made point is log 30). Linearisation is on the segment that holds the raw value, the first
and the last extended, and a quotient is rounded to the nearest integer, ties away from zero. -/
def Obligations.ConversionFiltersAndDetectsTheBreak : Prop :=
  (∀ (points : List CalPoint) (raw : Int) (i : Nat) (a b : CalPoint), points.Pairwise (fun x y => x.raw < y.raw) →
    points[i]? = some a → points[i + 1]? = some b → i = 0 ∨ a.raw ≤ raw → i + 2 = points.length ∨ raw < b.raw →
      linearise points raw = a.force + roundDiv (form64 ((raw - a.raw) * (b.force - a.force))) (b.raw - a.raw)) ∧
  (∀ x : Int, -9223372036854775808 ≤ x → x ≤ 9223372036854775807 → form64 x = x) ∧
  (∀ n d : Int, 0 < d →
    (0 ≤ n → 2 * d * roundDiv n d ≤ 2 * n + d ∧ 2 * n + d < 2 * d * (roundDiv n d + 1)) ∧
    roundDiv (-n) d = -roundDiv n d) ∧
  ∀ (s : State) (raw : BitVec 24),
    let outside : Prop := raw.toInt = -8388608 ∨ raw.toInt = 8388607
    let fLin := if outside then s.force.fLin
      else if s.frame.status = .committed then sat32 (linearise s.frame.defn.points raw.toInt) else 0
    let grown := s.force.window ++ [fLin - s.force.tare]
    let window := if s.force.filterLength < grown.length then grown.drop 1 else grown
    let mean := form32 (roundDiv (sumOf window) window.length)
    let beyond : Prop := s.frame.status = .committed ∧ s.frame.defn.capacity * 1100 < (mean.natAbs : Int)
    let quiet : Force := { s.force with raw := raw.toInt, overRange := decide outside, fLin := fLin, window := window,
                                        previous := s.force.filtered, filtered := mean,
                                        overload := if s.frame.status = .committed then decide beyond else s.force.overload }
    let sensed : State := { s with force := quiet }
    let end1 : Word32 := if raw.toInt = 8388607 then 1 else 2
    let overloaded (t : State) : State := t.raise .overload (signed32 (roundDiv mean 1000))
    (s.inTest = false →
      let told := if outside ∧ s.force.overRange = false then sensed.record .forceOverrange end1 .testFault else sensed
      exec (.conversion raw) s = .next (
        if beyond ∧ (s.force.overload = false ∨ s.frame.state ≠ .faulted ∧ s.frame.state ≠ .undefined) then
          (overloaded told).transmit
        else told.transmit)) ∧
    (s.inTest = true → outside →
      let ended := (sensed.record .forceOverrange end1 .testFault).endTest .testFault 24
      exec (.conversion raw) s = .next (if beyond then (overloaded ended).transmit else ended.transmit)) ∧
    (s.inTest = true → ¬outside → beyond → exec (.conversion raw) s = .next (overloaded sensed).transmit) ∧
    (∀ p, s.inTest = true → s.program = some p → ¬outside → ¬beyond → p.forceLimit * 1000 ≤ mean →
      exec (.conversion raw) s =
        .next ((sensed.record .forceLimit (signed32 (roundDiv mean 1000)) .testFault).endTest .testFault 25).transmit) ∧
    ∀ p, s.inTest = true → s.program = some p → ¬outside → ¬beyond → mean < p.forceLimit * 1000 →
      let peak := max s.force.peak mean
      let armed := s.force.armed || decide (p.breakMin * 1000 ≤ peak)
      let fraction : Prop := mean * 100 < peak * p.breakPct
      let sudden : Prop := peak * p.suddenPct < (s.force.filtered - mean) * 100
      let raised : Force := { quiet with peak := peak, armed := armed }
      (¬(armed = true ∧ s.force.capture = none ∧ (fraction ∨ sudden)) →
        exec (.conversion raw) s = .next ({ s with force := raised } : State).transmit) ∧
      (∀ t, s.recs.test = some t → armed = true → s.force.capture = none → fraction ∨ sudden →
        let c : Capture := { force := s.force.filtered, p := s.servo.latest.p, eps := s.servo.latest.eps,
                             d := if t.pointMade then s.servo.latest.d else 0, time := s.clock,
                             condition := if fraction then .fraction else .sudden }
        exec (.conversion raw) s = .next ((({ s with force := { raised with capture := some c, breakFlag := true } } :
          State).record .breakDetected (signed32 (roundDiv s.force.filtered 1000)) .info).transmit))

/-! ### The servo update -/

/-- R26, R45, R46, R47 and R48: a servo update in any state: time is counted (log 3) and the encoder read; the strain source
gives the strain; the loop controls or tracks; the supervisor acts; and the test point, delivered to the four blocks that follow
the test and keeping its test time (R148), or the idle point is made in the state these steps have left (the end of a test that is still on its way to the
strain source is taken before an idle point is made, log 8; the mark of a made point is log 30). -/
def Obligations.ServoUpdateMakesItsStepsInOrder : Prop :=
  ∀ (s : State) (encoder : Word32) (still : Bool),
    let down (t : Option Nat) : Option Nat := t.map (· - 1)
    let b : State := { s with
      clock := s.clock + 1
      inputs := { s.inputs with retracted := s.inputs.retracted && still }
      frame := { s.frame with rawCount := encoder, driveTimer := down s.frame.driveTimer,
                              move := s.frame.move.map fun m => { m with settle := down m.settle } }
      ext := { s.ext with timer := down s.ext.timer }
      strain := { s.strain with timer := down s.strain.timer }
      seq := { s.seq with timer := match s.seq.timer with
        | .running left => .running (left - 1)
        | other => other }
      link := { s.link with rxTimer := down s.link.rxTimer }
      stream := { s.stream with timer := down s.stream.timer } }
    let p := if s.frame.status = .committed then
        roundDiv (encoder.toInt * s.frame.defn.nmPerCount) 1000 + s.frame.offset else 0
    let f := s.force.filtered
    let given := b.strainStep p f
    let driven := given.1.control p f given.2
    let u := driven.1.supervise p driven.2
    let testing : Prop := u.frame.state = .testing ∨ u.frame.state = .held
    let report (v : Servo) : Servo := { v with
      reported := { channel := v.channel, sp := v.sp, q := v.q, uLast := v.uLast, override := v.override } }
    (testing →
      let point : Point :=
        { isTest := true, time := s.clock + 1, testTime := s.clock + 1 - s.servo.startTime, p := p,
          d := p - s.servo.startPos, f := f, eps := given.2, source := u.strain.state, stage := u.seq.stage,
          held := decide (u.frame.state = .held) }
      exec (.servoUpdate encoder still) s = .next ({ u with
        servo := report { u.servo with latest := point, testTime := point.testTime }
        recs := { u.recs with test := u.recs.test.map fun t => { t with pointMade := true } }
        points := { sequencer := u.points.sequencer ++ [point], watch := u.points.watch ++ [point],
                    evaluation := u.points.evaluation ++ [point], removal := u.points.removal ++ [point] } } :
          State).transmit) ∧
    (¬testing →
      let out := u.settleStrain
      let point : Point :=
        { isTest := false, time := s.clock + 1, testTime := 0, p := p, d := 0, f := f,
          eps := match out.strain.state, out.strain.zero, out.strain.gauge with
            | .zeroed, some z, some g => roundDiv (form64 ((out.strain.heldMean - z) * 100000)) g
            | _, _, _ => 0
          source := out.strain.state, stage := none, held := false }
      exec (.servoUpdate encoder still) s =
        .next ({ out with servo := report { out.servo with latest := point } } : State).transmit)

/-- R82, R86, R87, R90, R91, R100, R101 and R102: what the strain source does at a servo update. It takes a test end that is
on its way to it (log 8); it drains the sample FIFO, with the held mean, the starvation count and the counts of a test (made before
EXT_GAP is raised, log 9); and it gives the strain of its state, where in FOLLOWING 20 updates without a good sample are a loss
(no switch waits in FOLLOWING). -/
def Obligations.UpdatesTakeTheSamplesAndGiveTheStrain : Prop :=
  (∀ s : State, s.settleStrain = { s with
    mail := s.mail.erase .strainSourceTestEnd
    strain :=
      if .strainSourceTestEnd ∈ s.mail ∧ s.inTest = false ∧
          (s.strain.state = .following ∨ s.strain.state = .derived ∨ s.strain.state = .removing) then
        { s.strain with
          state := if s.strain.state = .removing then .removing else if s.ext.state = .locked then .fitted else .absent
          zero := none, gauge := none, pendingSwitch := none, ofTest := false }
      else s.strain }) ∧
  (∀ s : State,
    let good := s.ext.fifo.filter fun y => !y.checkBad
    let taken : State := { s with
      ext := { s.ext with fifo := [] }
      strain := { s.strain with
        heldMean := if good = [] then s.strain.heldMean
          else roundDiv (sumOf (good.map fun y => y.elongation)) good.length
        starvation := if good = [] then min 65535 (s.strain.starvation + 1) else 0
        gapCount := if s.inTest then min 65535 (s.strain.gapCount + (s.ext.fifo.filter (·.gap)).length)
          else s.strain.gapCount
        badCount := if s.inTest then min 65535 (s.strain.badCount + (s.ext.fifo.filter (·.checkBad)).length)
          else s.strain.badCount } }
    let told := s.ext.fifo.foldl (fun r y => if y.gap then r.raise .extGap (BitVec.ofNat 32 y.lost) else r) taken
    s.drain = told.settleStrain) ∧
  ∀ (s : State) (p f : Int),
    let b := s.settleStrain.drain
    let d := p - b.servo.startPos
    let xh := roundDiv (form64 ((d - roundDiv (form64 (b.frame.defn.compliance * f)) 1000000000) * 10000000))
      b.strain.parallel
    let ofMean := match b.strain.zero, b.strain.gauge with
      | some z, some g => roundDiv (form64 ((b.strain.heldMean - z) * 100000)) g
      | _, _ => 0
    let before := b.servo.latest.eps
    (b.inTest = false → s.strainStep p f = (b, if b.strain.state = .zeroed then ofMean else 0)) ∧
    (b.inTest = true → b.strain.state = .following → b.strain.starvation < 20 → s.strainStep p f = (b, ofMean)) ∧
    (b.inTest = true → b.strain.state = .following → 20 ≤ b.strain.starvation → b.strain.pendingSwitch = none →
      .strainSourceTestEnd ∉ b.mail →
      let lost : State := { b with strain := { b.strain with
        state := .derived, k := before - xh, switchCount := b.strain.switchCount + 1 } }
      (b.events.severities.extLost = .warning →
        let told := lost.record .extLost 2 .warning
        s.strainStep p f =
          (if b.program.map (·.extLostAction) = some .hold then told.setHold .extLost else told, before)) ∧
      (b.events.severities.extLost = .testFault →
        s.strainStep p f = (((lost.record .extLost 2 .testFault).endTest .testFault 21).settleStrain, 0))) ∧
    (b.inTest = true → b.strain.state = .derived ∨ b.strain.state = .removing →
      (∀ carry, b.strain.pendingSwitch = some carry →
        s.strainStep p f =
          ({ b with strain := { b.strain with k := carry - xh, pendingSwitch := none } }, carry)) ∧
      (b.strain.pendingSwitch = none → s.strainStep p f = (b, sat32 (xh + b.strain.k))))

/-- R23, R28, R29, R30, R32 to R36 and R39 to R44: the control computation of an update: tracking; and in every other state the
channel, rate and target of the frame state, a bumpless entry where one is called for (with rate 0 outside a test, in MOVING too, log
20), the advance to the target, the control law with its freeze, the clamp and the travel gating. -/
def Obligations.UpdatesControlTheirChannel : Prop :=
  (∀ (s : State) (p f eps : Int),
    s.frame.state = .undefined ∨ s.frame.state = .driveOff ∨ s.frame.state = .enabling ∨ s.frame.state = .faulted →
    s.control p f eps = ({ s with servo := { s.servo with
      uLast := 0, dac := 0, channel := .position, sp := p, q := 0, iAcc := 0, entry := false } }, .none)) ∧
  ∀ (s : State) (p f eps rate : Int) (c : Channel) (target : Option Int),
    let stage (g : Stage) : Prop := ∃ n, s.seq.stage = some n ∧ s.stageAt n = some g
    let mode := s.program.map (·.holdMode)
    (s.frame.state = .ready ∧ c = .position ∧ rate = 0 ∧ target = none) ∨
      (∃ m, (s.frame.state = .moving ∨ s.frame.state = .returning) ∧ s.frame.move = some m ∧ c = .position ∧
        rate = m.rate ∧ target = m.target) ∨
      (∃ g, s.frame.state = .testing ∧ stage g ∧ c = g.channel ∧
        rate = Int.tdiv (form64 (g.rate * s.servo.override)) 100 ∧
        target = if g.end1.kind = .target then some g.end1.value
          else if g.end2.kind = .target then some g.end2.value else none) ∨
      (∃ g, s.frame.state = .held ∧ mode = some .holdChannel ∧ stage g ∧ c = g.channel ∧ rate = 0 ∧ target = none) ∨
      (s.frame.state = .held ∧ mode = some .holdPosition ∧ c = .position ∧ rate = 0 ∧ target = none) →
    let v := s.servo
    let defn := s.frame.defn
    let y := match c with
      | .position => p
      | .force => f
      | .strain => eps
    let gains := match c with
      | .position => s.frame.gainsPosition
      | .force => s.frame.gainsForce
      | .strain => s.frame.gainsStrain
    let enters : Prop := v.entry = true ∨ c ≠ v.channel
    let r := if enters ∧ s.inTest = false then 0 else rate
    let ff := roundDiv (form128 (r * gains.kf)) 65536
    let sp := if enters then y else v.sp
    let q := if enters then 0 else v.q
    let iAcc := if enters then sat64 ((v.uLast - ff) * 65536) else v.iAcc
    let step := (q + r) / 1000
    let ahead : Int × Int := (sp + step, q + r - 1000 * step)
    let a : Int × Int := match target with
      | none => ahead
      | some goal =>
        if r = 0 then ahead
        else if sp = goal ∨ 0 < r ∧ sp < goal ∧ goal ≤ sp + step ∨ r < 0 ∧ goal < sp ∧ sp + step ≤ goal then (goal, 0)
        else ahead
    let e := a.1 - y
    let prop := roundDiv (form128 (gains.kp * e)) 65536
    let iNew := sat64 (form128 (iAcc + gains.ki * e))
    let trial := ff + prop + roundDiv iNew 65536
    let freezes : Prop := defn.vmax < trial ∧ 0 < e ∨ trial < -defn.vmax ∧ e < 0
    let raw := if freezes then ff + prop + roundDiv iAcc 65536 else trial
    let within := if raw < -defn.vmax then -defn.vmax else if defn.vmax < raw then defn.vmax else raw
    let gate : Gate := if defn.travelMax ≤ p ∧ 0 < within then .travelMax
      else if p ≤ defn.travelMin ∧ within < 0 then .travelMin else .none
    let u := if gate = .none then within else 0
    let signed (m : Move) : Move := match m.kind, m.target with
      | .returning, some goal => { m with
          rate := if sp < goal then m.rate.natAbs else if goal < sp then -(m.rate.natAbs : Int) else 0 }
      | _, _ => m
    s.control p f eps = ({ s with
      frame := { s.frame with
        move := if enters ∧ s.frame.state = .returning then s.frame.move.map signed else s.frame.move }
      servo := { v with channel := c, sp := a.1, q := a.2, iAcc := if freezes then iAcc else iNew, uLast := u,
                        dac := roundDiv (u * 32767) defn.vmax, entry := false } }, gate)

/-- R6, R26, R27, R29, R47 and R48 with the counting of time (log 3): a servo update in a state in which the loop tracks. -/
def Obligations.TrackingUpdateFollowsThePosition : Prop :=
  ∀ (s : State) (encoder : Word32) (still : Bool),
    s.frame.state = .undefined ∨ s.frame.state = .driveOff ∨ s.frame.state = .enabling ∨ s.frame.state = .faulted →
    s.ext.fifo = [] → .strainSourceTestEnd ∉ s.mail →
    let down (t : Option Nat) : Option Nat := t.map (· - 1)
    let p := if s.frame.status = .committed then
        roundDiv (encoder.toInt * s.frame.defn.nmPerCount) 1000 + s.frame.offset else 0
    let point : Point :=
      { isTest := false, time := s.clock + 1, testTime := 0, p := p, d := 0, f := s.force.filtered,
        eps := match s.strain.state, s.strain.zero, s.strain.gauge with
          | .zeroed, some z, some g => roundDiv (form64 ((s.strain.heldMean - z) * 100000)) g
          | _, _, _ => 0
        source := s.strain.state, stage := none, held := false }
    exec (.servoUpdate encoder still) s = .next ({ s with
      clock := s.clock + 1
      inputs := { s.inputs with retracted := s.inputs.retracted && still }
      frame := { s.frame with rawCount := encoder, driveTimer := down s.frame.driveTimer,
                              move := s.frame.move.map fun m => { m with settle := down m.settle } }
      ext := { s.ext with timer := down s.ext.timer }
      strain := { s.strain with timer := down s.strain.timer, starvation := min 65535 (s.strain.starvation + 1) }
      seq := { s.seq with timer := match s.seq.timer with
        | .running left => .running (left - 1)
        | other => other }
      link := { s.link with rxTimer := down s.link.rxTimer }
      stream := { s.stream with timer := down s.stream.timer }
      servo := { s.servo with uLast := 0, dac := 0, channel := .position, sp := p, q := 0, iAcc := 0, entry := false,
                              latest := point,
                              reported := { channel := .position, sp := p, q := 0, uLast := 0,
                                            override := s.servo.override } } } : State).transmit

/-- R26, R28, R30, R32 to R37, R45, R46, R48, R86, R90 and R91: a servo update in TESTING with the strain derived, where no entry
is called for and no travel limit is met (the sample counts stop at 65,535): the setpoint advances at the stage's overridden rate, the control law gives the
demand, and the test point is delivered to the four blocks that follow the test. Time is counted as log 3 says; the marks of a
gated update and of a made point are the model's (log 29, log 30). -/
def Obligations.TestingUpdateMakesATestPoint : Prop :=
  ∀ (s : State) (encoder : Word32) (still : Bool) (n : Nat) (g : Stage) (t : TestInProgress),
    s.frame.state = .testing → s.ext.fifo = [] → .strainSourceTestEnd ∉ s.mail → s.recs.test = some t →
    s.seq.stage = some n → s.stageAt n = some g → s.servo.entry = false → s.servo.channel = g.channel →
    s.strain.state = .derived →
    let down (t : Option Nat) : Option Nat := t.map (· - 1)
    let defn := s.frame.defn
    let p := if s.frame.status = .committed then roundDiv (encoder.toInt * defn.nmPerCount) 1000 + s.frame.offset else 0
    let f := s.force.filtered
    let d := p - s.servo.startPos
    let xh := roundDiv (form64 ((d - roundDiv (form64 (defn.compliance * f)) 1000000000) * 10000000)) s.strain.parallel
    let eps := match s.strain.pendingSwitch with
      | some carry => carry
      | none => sat32 (xh + s.strain.k)
    let y := match g.channel with
      | .position => p
      | .force => f
      | .strain => eps
    let gains := match g.channel with
      | .position => s.frame.gainsPosition
      | .force => s.frame.gainsForce
      | .strain => s.frame.gainsStrain
    let rate := Int.tdiv (form64 (g.rate * s.servo.override)) 100
    let goal := if g.end1.kind = .target then some g.end1.value
      else if g.end2.kind = .target then some g.end2.value else none
    let a := advance s.servo.sp s.servo.q rate goal
    let e := a.1 - y
    let ff := roundDiv (form128 (rate * gains.kf)) 65536
    let prop := roundDiv (form128 (gains.kp * e)) 65536
    let iNew := sat64 (form128 (s.servo.iAcc + gains.ki * e))
    let trial := ff + prop + roundDiv iNew 65536
    let freezes : Prop := defn.vmax < trial ∧ 0 < e ∨ trial < -defn.vmax ∧ e < 0
    let raw := if freezes then ff + prop + roundDiv s.servo.iAcc 65536 else trial
    let u := if raw < -defn.vmax then -defn.vmax else if defn.vmax < raw then defn.vmax else raw
    ¬(defn.travelMax ≤ p ∧ 0 < u) → ¬(p ≤ defn.travelMin ∧ u < 0) →
    let point : Point :=
      { isTest := true, time := s.clock + 1, testTime := s.clock + 1 - s.servo.startTime, p := p, d := d, f := f,
        eps := eps, source := .derived, stage := some n, held := false }
    exec (.servoUpdate encoder still) s = .next ({ s with
      clock := s.clock + 1
      inputs := { s.inputs with retracted := s.inputs.retracted && still }
      frame := { s.frame with rawCount := encoder, driveTimer := down s.frame.driveTimer, gateActed := false,
                              move := s.frame.move.map fun m => { m with settle := down m.settle } }
      ext := { s.ext with timer := down s.ext.timer }
      strain := { s.strain with
        timer := down s.strain.timer, starvation := min 65535 (s.strain.starvation + 1), pendingSwitch := none
        gapCount := min 65535 s.strain.gapCount, badCount := min 65535 s.strain.badCount
        k := match s.strain.pendingSwitch with
          | some carry => carry - xh
          | none => s.strain.k }
      seq := { s.seq with timer := match s.seq.timer with
        | .running left => .running (left - 1)
        | other => other }
      link := { s.link with rxTimer := down s.link.rxTimer }
      stream := { s.stream with timer := down s.stream.timer }
      recs := { s.recs with test := some { t with pointMade := true } }
      points := { sequencer := s.points.sequencer ++ [point], watch := s.points.watch ++ [point],
                  evaluation := s.points.evaluation ++ [point], removal := s.points.removal ++ [point] }
      servo := { s.servo with sp := a.1, q := a.2, iAcc := if freezes then s.servo.iAcc else iNew, uLast := u,
                              dac := roundDiv (u * 32767) defn.vmax, latest := point, testTime := point.testTime,
                              reported := { channel := g.channel, sp := a.1, q := a.2, uLast := u,
                                            override := s.servo.override } } } : State).transmit

/-- R32, R33, R36 and R2: the setpoint advances by exactly the rate and never passes its target; after every servo update,
whatever the state before it, the demand lies within the definition's largest speed, the DAC code is the demand's and lies
within its range, the output voltage is code × 10 / 32,767 V, within ±10 V and at ±10 V for a demand of ±vmax, no demand
drives past a travel limit, and a state in which the loop tracks has demand 0. -/
def Obligations.DemandStaysWithinTheDefinition : Prop :=
  (∀ sp q rate : Int,
    let a := advance sp q rate none
    1000 * a.1 + a.2 = 1000 * sp + q + rate ∧ 0 ≤ a.2 ∧ a.2 < 1000) ∧
  (∀ sp q rate goal : Int, 0 ≤ q → q < 1000 →
    let a := advance sp q rate (some goal)
    (0 ≤ a.2 ∧ a.2 < 1000) ∧ (0 < rate → sp ≤ goal → sp ≤ a.1 ∧ a.1 ≤ goal) ∧
    (rate < 0 → goal ≤ sp → goal ≤ a.1 ∧ a.1 ≤ sp)) ∧
  ∀ (s t : State) (encoder : Word32) (still : Bool), exec (.servoUpdate encoder still) s = .next t →
    s.frame.status = .committed → 1 ≤ s.frame.defn.vmax → 0 ≤ s.servo.q → s.servo.q < 1000 →
    let p := roundDiv (encoder.toInt * s.frame.defn.nmPerCount) 1000 + s.frame.offset
    (-s.frame.defn.vmax ≤ t.servo.uLast ∧ t.servo.uLast ≤ s.frame.defn.vmax) ∧
    (-32767 ≤ t.servo.dac ∧ t.servo.dac ≤ 32767) ∧
    t.servo.dac = roundDiv (t.servo.uLast * 32767) s.frame.defn.vmax ∧
    (t.servo.voltage = (t.servo.dac : Rat) * 10 / 32767 ∧ -10 ≤ t.servo.voltage ∧ t.servo.voltage ≤ 10) ∧
    (t.servo.uLast = s.frame.defn.vmax → t.servo.voltage = 10) ∧
    (t.servo.uLast = -s.frame.defn.vmax → t.servo.voltage = -10) ∧ (s.frame.defn.travelMax ≤ p → t.servo.uLast ≤ 0) ∧
    (p ≤ s.frame.defn.travelMin → 0 ≤ t.servo.uLast) ∧ (0 ≤ t.servo.q ∧ t.servo.q < 1000) ∧
    (s.frame.state = .driveOff ∨ s.frame.state = .enabling ∨ s.frame.state = .faulted →
      t.servo.uLast = 0 ∧ t.servo.dac = 0 ∧ t.servo.sp = p)

/-! ### What every step keeps -/

/-- The invariants below hold at reset. -/
def Obligations.InvariantsHoldAtReset : Prop :=
  State.reset.WithinCapacity ∧ State.reset.HoldInOrder ∧ State.reset.RecordsInOrder ∧ State.reset.EventsInOrder ∧
    State.reset.eval.InOrder

/-- R81, R141, R193, R194 and R199: every step keeps the capacities of the queues, slots and FIFOs. -/
def Obligations.StepsKeepTheCapacities : Prop :=
  ∀ s t : State, s.WithinCapacity → step s = .next t → t.WithinCapacity

/-- R3, R5, R133: every step keeps the frame's order, and a hold cause is set only while the frame is HELD. -/
def Obligations.StepsKeepTheHoldCausesInOrder : Prop :=
  ∀ s t : State, s.HoldInOrder → step s = .next t → t.HoldInOrder

/-- R142, R148, R150: every step keeps the test in progress, the running copy, the room for its result, and each ID at most
once across queue, test and results. -/
def Obligations.StepsKeepTheRecordsInOrder : Prop :=
  ∀ s t : State, s.RecordsInOrder → step s = .next t → t.RecordsInOrder

/-- R178, R179, R180 and R188: every step keeps at most one waiting frame per kind, of a pending kind, and counts of 1 to
255. -/
def Obligations.StepsKeepTheEventsInOrder : Prop :=
  ∀ s t : State, s.EventsInOrder → step s = .next t → t.EventsInOrder

/-- R161, R166, R168 and R170: every step keeps the lower yield below the upper yield and the offset yield at most Fmax. -/
def Obligations.StepsKeepTheYieldValuesInOrder : Prop :=
  ∀ s t : State, s.eval.InOrder → step s = .next t → t.eval.InOrder

/-- R3 and R5: no command but POWER_ON changes a committed frame definition. -/
def Obligations.CommittedDefinitionStays : Prop :=
  ∀ s t : State, s.frame.status = .committed → (∀ levels, s.pending.head? ≠ some (.powerOn levels)) →
    step s = .next t → t.frame.status = .committed ∧ t.frame.defn = s.frame.defn
end

