-- ==== Sys2Proof/Laws/Codec.lean ====
section
/-! SUPPORT. The fields of a request body, written and read back (spec/11, section 11.6). -/

namespace Sys2Proof

/-- The four bytes of a field, read back, are the field. -/
theorem word32_bytes (w : Word32) :
    word32 (w.extractLsb' 0 8) (w.extractLsb' 8 8) (w.extractLsb' 16 8) (w.extractLsb' 24 8) = w := by
  apply BitVec.eq_of_getLsbD_eq
  intro i hi
  simp only [word32, BitVec.getLsbD_append, BitVec.getLsbD_extractLsb']
  interval_cases i <;> simp

/-- The two bytes of a 16-bit field, read back, are the field. -/
theorem halves_bytes (w : BitVec 16) : (w.extractLsb' 8 8 ++ w.extractLsb' 0 8 : BitVec 16) = w := by
  apply BitVec.eq_of_getLsbD_eq
  intro i hi
  simp only [BitVec.getLsbD_append, BitVec.getLsbD_extractLsb']
  interval_cases i <;> simp

/-- A byte before the end of the first part lies in it. -/
theorem at8_append_left (a b : List Byte) (i : Nat) (h : i < a.length) : at8 (a ++ b) i = at8 a i := by
  simp [at8, List.getElem?_append_left h]

/-- A byte after the end of the first part lies in the second. -/
theorem at8_append_right (a b : List Byte) (i : Nat) (h : a.length ≤ i) : at8 (a ++ b) i = at8 b (i - a.length) := by
  simp [at8, List.getElem?_append_right h]

@[simp] theorem bytes32_length (w : Word32) : (bytes32 w).length = 4 := by rfl

/-- A field written after `a.length` bytes is read back at that offset. -/
theorem at32_append (a b : List Byte) (w : Word32) : at32 (a ++ (bytes32 w ++ b)) a.length = w := by
  have h : ∀ k, at8 (a ++ (bytes32 w ++ b)) (a.length + k) = at8 (bytes32 w ++ b) k := fun k => by
    rw [at8_append_right _ _ _ (by omega), Nat.add_sub_cancel_left]
  have h0 := h 0
  simp only [Nat.add_zero] at h0
  rw [at32, h0, h 1, h 2, h 3]
  exact word32_bytes w

/-- A 16-bit field written after `a.length` bytes is read back at that offset. -/
theorem at16_append (a b : List Byte) (w : BitVec 16) : at16 (a ++ (bytes16 w ++ b)) a.length = w := by
  have h : ∀ k, at8 (a ++ (bytes16 w ++ b)) (a.length + k) = at8 (bytes16 w ++ b) k := fun k => by
    rw [at8_append_right _ _ _ (by omega), Nat.add_sub_cancel_left]
  have h0 := h 0
  simp only [Nat.add_zero] at h0
  rw [at16, h0, h 1]
  exact halves_bytes w

/-- An ID written after `a.length` bytes is read back at that offset. -/
theorem atId_append (a b : List Byte) (id : RawId) (h : id.wf = true) : atId (a ++ (idBytes id ++ b)) a.length = id := by
  obtain ⟨n, places⟩ := id
  have hl : places.length = 16 := by simpa [RawId.wf] using h
  have h8 : at8 (a ++ (n :: places ++ b)) a.length = n := by
    rw [at8_append_right _ _ _ (by omega), Nat.sub_self]; rfl
  have hd : (a ++ (n :: places ++ b)).drop (a.length + 1) = places ++ b := by
    rw [List.drop_append]; simp
  simp only [atId, idBytes, h8, hd]
  simp [hl]

/-- The calibration points written are the points read. -/
theorem readPoints_bytes (points : List RawPoint) :
    readPoints points.length (points.flatMap fun p => bytes32 p.raw ++ bytes32 p.force) = points := by
  induction points with
  | nil => rfl
  | cons p rest ih =>
    have h0 := at32_append [] (bytes32 p.force ++ rest.flatMap fun p => bytes32 p.raw ++ bytes32 p.force) p.raw
    have h4 := at32_append (bytes32 p.raw) (rest.flatMap fun p => bytes32 p.raw ++ bytes32 p.force) p.force
    simp only [List.nil_append, List.length_nil, bytes32_length] at h0 h4
    simp only [List.length_cons, readPoints, List.flatMap_cons, List.append_assoc, h0, h4]
    rw [show (bytes32 p.raw ++ (bytes32 p.force ++ rest.flatMap fun p => bytes32 p.raw ++ bytes32 p.force)).drop 8 =
      rest.flatMap fun p => bytes32 p.raw ++ bytes32 p.force from rfl, ih]

/-- The two end kinds of a stage's byte, read back. -/
theorem nibbles_byte (a b : BitVec 4) :
    (b ++ a : Byte).extractLsb' 0 4 = a ∧ (b ++ a : Byte).extractLsb' 4 4 = b := by
  constructor <;> apply BitVec.eq_of_getLsbD_eq <;> intro i hi <;> rw [BitVec.getLsbD_extractLsb'] <;>
    erw [BitVec.getLsbD_append] <;> interval_cases i <;> simp

@[simp] theorem stageBytes_length (g : RawStage) : (stageBytes g).length = 14 := by rfl

/-- The stages written are the stages read. -/
theorem readStages_bytes (stages : List RawStage) : readStages stages.length (stages.flatMap stageBytes) = stages := by
  induction stages with
  | nil => rfl
  | cons g rest ih =>
    have h := nibbles_byte g.kind1 g.kind2
    have h1 := word32_bytes g.rate
    have h2 := word32_bytes g.value1
    have h3 := word32_bytes g.value2
    have hd : ((g :: rest).flatMap stageBytes).drop 14 = rest.flatMap stageBytes := rfl
    obtain ⟨c, k1, k2, r, v1, v2⟩ := g
    simp only [List.length_cons, readStages, hd, ih]
    congr 1
    exact congr (congr (congr (congr (congr (congr rfl rfl) h.1) h.2) h1) h2) h3

end Sys2Proof
end

