-- ==== Sys2Proof/Laws/State.lean ====
section
/-! SUPPORT. The small lemmas of State: for each update of one block, what each field is afterwards. -/

namespace Sys2Proof.Machine

section
variable (s : State) (g : Inputs → Inputs)

@[simp] theorem onInputs_inputs : (s.onInputs g).inputs = g s.inputs := by rfl
@[simp] theorem onInputs_clock : (s.onInputs g).clock = s.clock := by rfl
@[simp] theorem onInputs_frame : (s.onInputs g).frame = s.frame := by rfl
@[simp] theorem onInputs_servo : (s.onInputs g).servo = s.servo := by rfl
@[simp] theorem onInputs_force : (s.onInputs g).force = s.force := by rfl
@[simp] theorem onInputs_ext : (s.onInputs g).ext = s.ext := by rfl
@[simp] theorem onInputs_strain : (s.onInputs g).strain = s.strain := by rfl
@[simp] theorem onInputs_seq : (s.onInputs g).seq = s.seq := by rfl
@[simp] theorem onInputs_watches : (s.onInputs g).watches = s.watches := by rfl
@[simp] theorem onInputs_hold : (s.onInputs g).hold = s.hold := by rfl
@[simp] theorem onInputs_recs : (s.onInputs g).recs = s.recs := by rfl
@[simp] theorem onInputs_eval : (s.onInputs g).eval = s.eval := by rfl
@[simp] theorem onInputs_events : (s.onInputs g).events = s.events := by rfl
@[simp] theorem onInputs_link : (s.onInputs g).link = s.link := by rfl
@[simp] theorem onInputs_stream : (s.onInputs g).stream = s.stream := by rfl
@[simp] theorem onInputs_points : (s.onInputs g).points = s.points := by rfl
@[simp] theorem onInputs_mail : (s.onInputs g).mail = s.mail := by rfl
@[simp] theorem onInputs_pending : (s.onInputs g).pending = s.pending := by rfl

end

section
variable (s : State) (g : Frame → Frame)

@[simp] theorem onFrame_inputs : (s.onFrame g).inputs = s.inputs := by rfl
@[simp] theorem onFrame_clock : (s.onFrame g).clock = s.clock := by rfl
@[simp] theorem onFrame_frame : (s.onFrame g).frame = g s.frame := by rfl
@[simp] theorem onFrame_servo : (s.onFrame g).servo = s.servo := by rfl
@[simp] theorem onFrame_force : (s.onFrame g).force = s.force := by rfl
@[simp] theorem onFrame_ext : (s.onFrame g).ext = s.ext := by rfl
@[simp] theorem onFrame_strain : (s.onFrame g).strain = s.strain := by rfl
@[simp] theorem onFrame_seq : (s.onFrame g).seq = s.seq := by rfl
@[simp] theorem onFrame_watches : (s.onFrame g).watches = s.watches := by rfl
@[simp] theorem onFrame_hold : (s.onFrame g).hold = s.hold := by rfl
@[simp] theorem onFrame_recs : (s.onFrame g).recs = s.recs := by rfl
@[simp] theorem onFrame_eval : (s.onFrame g).eval = s.eval := by rfl
@[simp] theorem onFrame_events : (s.onFrame g).events = s.events := by rfl
@[simp] theorem onFrame_link : (s.onFrame g).link = s.link := by rfl
@[simp] theorem onFrame_stream : (s.onFrame g).stream = s.stream := by rfl
@[simp] theorem onFrame_points : (s.onFrame g).points = s.points := by rfl
@[simp] theorem onFrame_mail : (s.onFrame g).mail = s.mail := by rfl
@[simp] theorem onFrame_pending : (s.onFrame g).pending = s.pending := by rfl

end

section
variable (s : State) (g : Servo → Servo)

@[simp] theorem onServo_inputs : (s.onServo g).inputs = s.inputs := by rfl
@[simp] theorem onServo_clock : (s.onServo g).clock = s.clock := by rfl
@[simp] theorem onServo_frame : (s.onServo g).frame = s.frame := by rfl
@[simp] theorem onServo_servo : (s.onServo g).servo = g s.servo := by rfl
@[simp] theorem onServo_force : (s.onServo g).force = s.force := by rfl
@[simp] theorem onServo_ext : (s.onServo g).ext = s.ext := by rfl
@[simp] theorem onServo_strain : (s.onServo g).strain = s.strain := by rfl
@[simp] theorem onServo_seq : (s.onServo g).seq = s.seq := by rfl
@[simp] theorem onServo_watches : (s.onServo g).watches = s.watches := by rfl
@[simp] theorem onServo_hold : (s.onServo g).hold = s.hold := by rfl
@[simp] theorem onServo_recs : (s.onServo g).recs = s.recs := by rfl
@[simp] theorem onServo_eval : (s.onServo g).eval = s.eval := by rfl
@[simp] theorem onServo_events : (s.onServo g).events = s.events := by rfl
@[simp] theorem onServo_link : (s.onServo g).link = s.link := by rfl
@[simp] theorem onServo_stream : (s.onServo g).stream = s.stream := by rfl
@[simp] theorem onServo_points : (s.onServo g).points = s.points := by rfl
@[simp] theorem onServo_mail : (s.onServo g).mail = s.mail := by rfl
@[simp] theorem onServo_pending : (s.onServo g).pending = s.pending := by rfl

end

section
variable (s : State) (g : Force → Force)

@[simp] theorem onForce_inputs : (s.onForce g).inputs = s.inputs := by rfl
@[simp] theorem onForce_clock : (s.onForce g).clock = s.clock := by rfl
@[simp] theorem onForce_frame : (s.onForce g).frame = s.frame := by rfl
@[simp] theorem onForce_servo : (s.onForce g).servo = s.servo := by rfl
@[simp] theorem onForce_force : (s.onForce g).force = g s.force := by rfl
@[simp] theorem onForce_ext : (s.onForce g).ext = s.ext := by rfl
@[simp] theorem onForce_strain : (s.onForce g).strain = s.strain := by rfl
@[simp] theorem onForce_seq : (s.onForce g).seq = s.seq := by rfl
@[simp] theorem onForce_watches : (s.onForce g).watches = s.watches := by rfl
@[simp] theorem onForce_hold : (s.onForce g).hold = s.hold := by rfl
@[simp] theorem onForce_recs : (s.onForce g).recs = s.recs := by rfl
@[simp] theorem onForce_eval : (s.onForce g).eval = s.eval := by rfl
@[simp] theorem onForce_events : (s.onForce g).events = s.events := by rfl
@[simp] theorem onForce_link : (s.onForce g).link = s.link := by rfl
@[simp] theorem onForce_stream : (s.onForce g).stream = s.stream := by rfl
@[simp] theorem onForce_points : (s.onForce g).points = s.points := by rfl
@[simp] theorem onForce_mail : (s.onForce g).mail = s.mail := by rfl
@[simp] theorem onForce_pending : (s.onForce g).pending = s.pending := by rfl

end

section
variable (s : State) (g : Receiver → Receiver)

@[simp] theorem onExt_inputs : (s.onExt g).inputs = s.inputs := by rfl
@[simp] theorem onExt_clock : (s.onExt g).clock = s.clock := by rfl
@[simp] theorem onExt_frame : (s.onExt g).frame = s.frame := by rfl
@[simp] theorem onExt_servo : (s.onExt g).servo = s.servo := by rfl
@[simp] theorem onExt_force : (s.onExt g).force = s.force := by rfl
@[simp] theorem onExt_ext : (s.onExt g).ext = g s.ext := by rfl
@[simp] theorem onExt_strain : (s.onExt g).strain = s.strain := by rfl
@[simp] theorem onExt_seq : (s.onExt g).seq = s.seq := by rfl
@[simp] theorem onExt_watches : (s.onExt g).watches = s.watches := by rfl
@[simp] theorem onExt_hold : (s.onExt g).hold = s.hold := by rfl
@[simp] theorem onExt_recs : (s.onExt g).recs = s.recs := by rfl
@[simp] theorem onExt_eval : (s.onExt g).eval = s.eval := by rfl
@[simp] theorem onExt_events : (s.onExt g).events = s.events := by rfl
@[simp] theorem onExt_link : (s.onExt g).link = s.link := by rfl
@[simp] theorem onExt_stream : (s.onExt g).stream = s.stream := by rfl
@[simp] theorem onExt_points : (s.onExt g).points = s.points := by rfl
@[simp] theorem onExt_mail : (s.onExt g).mail = s.mail := by rfl
@[simp] theorem onExt_pending : (s.onExt g).pending = s.pending := by rfl

end

section
variable (s : State) (g : Strain → Strain)

@[simp] theorem onStrain_inputs : (s.onStrain g).inputs = s.inputs := by rfl
@[simp] theorem onStrain_clock : (s.onStrain g).clock = s.clock := by rfl
@[simp] theorem onStrain_frame : (s.onStrain g).frame = s.frame := by rfl
@[simp] theorem onStrain_servo : (s.onStrain g).servo = s.servo := by rfl
@[simp] theorem onStrain_force : (s.onStrain g).force = s.force := by rfl
@[simp] theorem onStrain_ext : (s.onStrain g).ext = s.ext := by rfl
@[simp] theorem onStrain_strain : (s.onStrain g).strain = g s.strain := by rfl
@[simp] theorem onStrain_seq : (s.onStrain g).seq = s.seq := by rfl
@[simp] theorem onStrain_watches : (s.onStrain g).watches = s.watches := by rfl
@[simp] theorem onStrain_hold : (s.onStrain g).hold = s.hold := by rfl
@[simp] theorem onStrain_recs : (s.onStrain g).recs = s.recs := by rfl
@[simp] theorem onStrain_eval : (s.onStrain g).eval = s.eval := by rfl
@[simp] theorem onStrain_events : (s.onStrain g).events = s.events := by rfl
@[simp] theorem onStrain_link : (s.onStrain g).link = s.link := by rfl
@[simp] theorem onStrain_stream : (s.onStrain g).stream = s.stream := by rfl
@[simp] theorem onStrain_points : (s.onStrain g).points = s.points := by rfl
@[simp] theorem onStrain_mail : (s.onStrain g).mail = s.mail := by rfl
@[simp] theorem onStrain_pending : (s.onStrain g).pending = s.pending := by rfl

end

section
variable (s : State) (g : Sequencer → Sequencer)

@[simp] theorem onSeq_inputs : (s.onSeq g).inputs = s.inputs := by rfl
@[simp] theorem onSeq_clock : (s.onSeq g).clock = s.clock := by rfl
@[simp] theorem onSeq_frame : (s.onSeq g).frame = s.frame := by rfl
@[simp] theorem onSeq_servo : (s.onSeq g).servo = s.servo := by rfl
@[simp] theorem onSeq_force : (s.onSeq g).force = s.force := by rfl
@[simp] theorem onSeq_ext : (s.onSeq g).ext = s.ext := by rfl
@[simp] theorem onSeq_strain : (s.onSeq g).strain = s.strain := by rfl
@[simp] theorem onSeq_seq : (s.onSeq g).seq = g s.seq := by rfl
@[simp] theorem onSeq_watches : (s.onSeq g).watches = s.watches := by rfl
@[simp] theorem onSeq_hold : (s.onSeq g).hold = s.hold := by rfl
@[simp] theorem onSeq_recs : (s.onSeq g).recs = s.recs := by rfl
@[simp] theorem onSeq_eval : (s.onSeq g).eval = s.eval := by rfl
@[simp] theorem onSeq_events : (s.onSeq g).events = s.events := by rfl
@[simp] theorem onSeq_link : (s.onSeq g).link = s.link := by rfl
@[simp] theorem onSeq_stream : (s.onSeq g).stream = s.stream := by rfl
@[simp] theorem onSeq_points : (s.onSeq g).points = s.points := by rfl
@[simp] theorem onSeq_mail : (s.onSeq g).mail = s.mail := by rfl
@[simp] theorem onSeq_pending : (s.onSeq g).pending = s.pending := by rfl

end

section
variable (s : State) (g : Vector Watch 5 → Vector Watch 5)

@[simp] theorem onWatches_inputs : (s.onWatches g).inputs = s.inputs := by rfl
@[simp] theorem onWatches_clock : (s.onWatches g).clock = s.clock := by rfl
@[simp] theorem onWatches_frame : (s.onWatches g).frame = s.frame := by rfl
@[simp] theorem onWatches_servo : (s.onWatches g).servo = s.servo := by rfl
@[simp] theorem onWatches_force : (s.onWatches g).force = s.force := by rfl
@[simp] theorem onWatches_ext : (s.onWatches g).ext = s.ext := by rfl
@[simp] theorem onWatches_strain : (s.onWatches g).strain = s.strain := by rfl
@[simp] theorem onWatches_seq : (s.onWatches g).seq = s.seq := by rfl
@[simp] theorem onWatches_watches : (s.onWatches g).watches = g s.watches := by rfl
@[simp] theorem onWatches_hold : (s.onWatches g).hold = s.hold := by rfl
@[simp] theorem onWatches_recs : (s.onWatches g).recs = s.recs := by rfl
@[simp] theorem onWatches_eval : (s.onWatches g).eval = s.eval := by rfl
@[simp] theorem onWatches_events : (s.onWatches g).events = s.events := by rfl
@[simp] theorem onWatches_link : (s.onWatches g).link = s.link := by rfl
@[simp] theorem onWatches_stream : (s.onWatches g).stream = s.stream := by rfl
@[simp] theorem onWatches_points : (s.onWatches g).points = s.points := by rfl
@[simp] theorem onWatches_mail : (s.onWatches g).mail = s.mail := by rfl
@[simp] theorem onWatches_pending : (s.onWatches g).pending = s.pending := by rfl

end

section
variable (s : State) (g : Hold → Hold)

@[simp] theorem onHold_inputs : (s.onHold g).inputs = s.inputs := by rfl
@[simp] theorem onHold_clock : (s.onHold g).clock = s.clock := by rfl
@[simp] theorem onHold_frame : (s.onHold g).frame = s.frame := by rfl
@[simp] theorem onHold_servo : (s.onHold g).servo = s.servo := by rfl
@[simp] theorem onHold_force : (s.onHold g).force = s.force := by rfl
@[simp] theorem onHold_ext : (s.onHold g).ext = s.ext := by rfl
@[simp] theorem onHold_strain : (s.onHold g).strain = s.strain := by rfl
@[simp] theorem onHold_seq : (s.onHold g).seq = s.seq := by rfl
@[simp] theorem onHold_watches : (s.onHold g).watches = s.watches := by rfl
@[simp] theorem onHold_hold : (s.onHold g).hold = g s.hold := by rfl
@[simp] theorem onHold_recs : (s.onHold g).recs = s.recs := by rfl
@[simp] theorem onHold_eval : (s.onHold g).eval = s.eval := by rfl
@[simp] theorem onHold_events : (s.onHold g).events = s.events := by rfl
@[simp] theorem onHold_link : (s.onHold g).link = s.link := by rfl
@[simp] theorem onHold_stream : (s.onHold g).stream = s.stream := by rfl
@[simp] theorem onHold_points : (s.onHold g).points = s.points := by rfl
@[simp] theorem onHold_mail : (s.onHold g).mail = s.mail := by rfl
@[simp] theorem onHold_pending : (s.onHold g).pending = s.pending := by rfl

end

section
variable (s : State) (g : Records → Records)

@[simp] theorem onRecs_inputs : (s.onRecs g).inputs = s.inputs := by rfl
@[simp] theorem onRecs_clock : (s.onRecs g).clock = s.clock := by rfl
@[simp] theorem onRecs_frame : (s.onRecs g).frame = s.frame := by rfl
@[simp] theorem onRecs_servo : (s.onRecs g).servo = s.servo := by rfl
@[simp] theorem onRecs_force : (s.onRecs g).force = s.force := by rfl
@[simp] theorem onRecs_ext : (s.onRecs g).ext = s.ext := by rfl
@[simp] theorem onRecs_strain : (s.onRecs g).strain = s.strain := by rfl
@[simp] theorem onRecs_seq : (s.onRecs g).seq = s.seq := by rfl
@[simp] theorem onRecs_watches : (s.onRecs g).watches = s.watches := by rfl
@[simp] theorem onRecs_hold : (s.onRecs g).hold = s.hold := by rfl
@[simp] theorem onRecs_recs : (s.onRecs g).recs = g s.recs := by rfl
@[simp] theorem onRecs_eval : (s.onRecs g).eval = s.eval := by rfl
@[simp] theorem onRecs_events : (s.onRecs g).events = s.events := by rfl
@[simp] theorem onRecs_link : (s.onRecs g).link = s.link := by rfl
@[simp] theorem onRecs_stream : (s.onRecs g).stream = s.stream := by rfl
@[simp] theorem onRecs_points : (s.onRecs g).points = s.points := by rfl
@[simp] theorem onRecs_mail : (s.onRecs g).mail = s.mail := by rfl
@[simp] theorem onRecs_pending : (s.onRecs g).pending = s.pending := by rfl

end

section
variable (s : State) (g : Evaluation → Evaluation)

@[simp] theorem onEval_inputs : (s.onEval g).inputs = s.inputs := by rfl
@[simp] theorem onEval_clock : (s.onEval g).clock = s.clock := by rfl
@[simp] theorem onEval_frame : (s.onEval g).frame = s.frame := by rfl
@[simp] theorem onEval_servo : (s.onEval g).servo = s.servo := by rfl
@[simp] theorem onEval_force : (s.onEval g).force = s.force := by rfl
@[simp] theorem onEval_ext : (s.onEval g).ext = s.ext := by rfl
@[simp] theorem onEval_strain : (s.onEval g).strain = s.strain := by rfl
@[simp] theorem onEval_seq : (s.onEval g).seq = s.seq := by rfl
@[simp] theorem onEval_watches : (s.onEval g).watches = s.watches := by rfl
@[simp] theorem onEval_hold : (s.onEval g).hold = s.hold := by rfl
@[simp] theorem onEval_recs : (s.onEval g).recs = s.recs := by rfl
@[simp] theorem onEval_eval : (s.onEval g).eval = g s.eval := by rfl
@[simp] theorem onEval_events : (s.onEval g).events = s.events := by rfl
@[simp] theorem onEval_link : (s.onEval g).link = s.link := by rfl
@[simp] theorem onEval_stream : (s.onEval g).stream = s.stream := by rfl
@[simp] theorem onEval_points : (s.onEval g).points = s.points := by rfl
@[simp] theorem onEval_mail : (s.onEval g).mail = s.mail := by rfl
@[simp] theorem onEval_pending : (s.onEval g).pending = s.pending := by rfl

end

section
variable (s : State) (g : Events → Events)

@[simp] theorem onEvents_inputs : (s.onEvents g).inputs = s.inputs := by rfl
@[simp] theorem onEvents_clock : (s.onEvents g).clock = s.clock := by rfl
@[simp] theorem onEvents_frame : (s.onEvents g).frame = s.frame := by rfl
@[simp] theorem onEvents_servo : (s.onEvents g).servo = s.servo := by rfl
@[simp] theorem onEvents_force : (s.onEvents g).force = s.force := by rfl
@[simp] theorem onEvents_ext : (s.onEvents g).ext = s.ext := by rfl
@[simp] theorem onEvents_strain : (s.onEvents g).strain = s.strain := by rfl
@[simp] theorem onEvents_seq : (s.onEvents g).seq = s.seq := by rfl
@[simp] theorem onEvents_watches : (s.onEvents g).watches = s.watches := by rfl
@[simp] theorem onEvents_hold : (s.onEvents g).hold = s.hold := by rfl
@[simp] theorem onEvents_recs : (s.onEvents g).recs = s.recs := by rfl
@[simp] theorem onEvents_eval : (s.onEvents g).eval = s.eval := by rfl
@[simp] theorem onEvents_events : (s.onEvents g).events = g s.events := by rfl
@[simp] theorem onEvents_link : (s.onEvents g).link = s.link := by rfl
@[simp] theorem onEvents_stream : (s.onEvents g).stream = s.stream := by rfl
@[simp] theorem onEvents_points : (s.onEvents g).points = s.points := by rfl
@[simp] theorem onEvents_mail : (s.onEvents g).mail = s.mail := by rfl
@[simp] theorem onEvents_pending : (s.onEvents g).pending = s.pending := by rfl

end

section
variable (s : State) (g : Link → Link)

@[simp] theorem onLink_inputs : (s.onLink g).inputs = s.inputs := by rfl
@[simp] theorem onLink_clock : (s.onLink g).clock = s.clock := by rfl
@[simp] theorem onLink_frame : (s.onLink g).frame = s.frame := by rfl
@[simp] theorem onLink_servo : (s.onLink g).servo = s.servo := by rfl
@[simp] theorem onLink_force : (s.onLink g).force = s.force := by rfl
@[simp] theorem onLink_ext : (s.onLink g).ext = s.ext := by rfl
@[simp] theorem onLink_strain : (s.onLink g).strain = s.strain := by rfl
@[simp] theorem onLink_seq : (s.onLink g).seq = s.seq := by rfl
@[simp] theorem onLink_watches : (s.onLink g).watches = s.watches := by rfl
@[simp] theorem onLink_hold : (s.onLink g).hold = s.hold := by rfl
@[simp] theorem onLink_recs : (s.onLink g).recs = s.recs := by rfl
@[simp] theorem onLink_eval : (s.onLink g).eval = s.eval := by rfl
@[simp] theorem onLink_events : (s.onLink g).events = s.events := by rfl
@[simp] theorem onLink_link : (s.onLink g).link = g s.link := by rfl
@[simp] theorem onLink_stream : (s.onLink g).stream = s.stream := by rfl
@[simp] theorem onLink_points : (s.onLink g).points = s.points := by rfl
@[simp] theorem onLink_mail : (s.onLink g).mail = s.mail := by rfl
@[simp] theorem onLink_pending : (s.onLink g).pending = s.pending := by rfl

end

section
variable (s : State) (g : Stream → Stream)

@[simp] theorem onStream_inputs : (s.onStream g).inputs = s.inputs := by rfl
@[simp] theorem onStream_clock : (s.onStream g).clock = s.clock := by rfl
@[simp] theorem onStream_frame : (s.onStream g).frame = s.frame := by rfl
@[simp] theorem onStream_servo : (s.onStream g).servo = s.servo := by rfl
@[simp] theorem onStream_force : (s.onStream g).force = s.force := by rfl
@[simp] theorem onStream_ext : (s.onStream g).ext = s.ext := by rfl
@[simp] theorem onStream_strain : (s.onStream g).strain = s.strain := by rfl
@[simp] theorem onStream_seq : (s.onStream g).seq = s.seq := by rfl
@[simp] theorem onStream_watches : (s.onStream g).watches = s.watches := by rfl
@[simp] theorem onStream_hold : (s.onStream g).hold = s.hold := by rfl
@[simp] theorem onStream_recs : (s.onStream g).recs = s.recs := by rfl
@[simp] theorem onStream_eval : (s.onStream g).eval = s.eval := by rfl
@[simp] theorem onStream_events : (s.onStream g).events = s.events := by rfl
@[simp] theorem onStream_link : (s.onStream g).link = s.link := by rfl
@[simp] theorem onStream_stream : (s.onStream g).stream = g s.stream := by rfl
@[simp] theorem onStream_points : (s.onStream g).points = s.points := by rfl
@[simp] theorem onStream_mail : (s.onStream g).mail = s.mail := by rfl
@[simp] theorem onStream_pending : (s.onStream g).pending = s.pending := by rfl

end

section
variable (s : State) (g : Deliveries → Deliveries)

@[simp] theorem onPoints_inputs : (s.onPoints g).inputs = s.inputs := by rfl
@[simp] theorem onPoints_clock : (s.onPoints g).clock = s.clock := by rfl
@[simp] theorem onPoints_frame : (s.onPoints g).frame = s.frame := by rfl
@[simp] theorem onPoints_servo : (s.onPoints g).servo = s.servo := by rfl
@[simp] theorem onPoints_force : (s.onPoints g).force = s.force := by rfl
@[simp] theorem onPoints_ext : (s.onPoints g).ext = s.ext := by rfl
@[simp] theorem onPoints_strain : (s.onPoints g).strain = s.strain := by rfl
@[simp] theorem onPoints_seq : (s.onPoints g).seq = s.seq := by rfl
@[simp] theorem onPoints_watches : (s.onPoints g).watches = s.watches := by rfl
@[simp] theorem onPoints_hold : (s.onPoints g).hold = s.hold := by rfl
@[simp] theorem onPoints_recs : (s.onPoints g).recs = s.recs := by rfl
@[simp] theorem onPoints_eval : (s.onPoints g).eval = s.eval := by rfl
@[simp] theorem onPoints_events : (s.onPoints g).events = s.events := by rfl
@[simp] theorem onPoints_link : (s.onPoints g).link = s.link := by rfl
@[simp] theorem onPoints_stream : (s.onPoints g).stream = s.stream := by rfl
@[simp] theorem onPoints_points : (s.onPoints g).points = g s.points := by rfl
@[simp] theorem onPoints_mail : (s.onPoints g).mail = s.mail := by rfl
@[simp] theorem onPoints_pending : (s.onPoints g).pending = s.pending := by rfl

end

section
variable (s : State) (g : List Notice → List Notice)

@[simp] theorem onMail_inputs : (s.onMail g).inputs = s.inputs := by rfl
@[simp] theorem onMail_clock : (s.onMail g).clock = s.clock := by rfl
@[simp] theorem onMail_frame : (s.onMail g).frame = s.frame := by rfl
@[simp] theorem onMail_servo : (s.onMail g).servo = s.servo := by rfl
@[simp] theorem onMail_force : (s.onMail g).force = s.force := by rfl
@[simp] theorem onMail_ext : (s.onMail g).ext = s.ext := by rfl
@[simp] theorem onMail_strain : (s.onMail g).strain = s.strain := by rfl
@[simp] theorem onMail_seq : (s.onMail g).seq = s.seq := by rfl
@[simp] theorem onMail_watches : (s.onMail g).watches = s.watches := by rfl
@[simp] theorem onMail_hold : (s.onMail g).hold = s.hold := by rfl
@[simp] theorem onMail_recs : (s.onMail g).recs = s.recs := by rfl
@[simp] theorem onMail_eval : (s.onMail g).eval = s.eval := by rfl
@[simp] theorem onMail_events : (s.onMail g).events = s.events := by rfl
@[simp] theorem onMail_link : (s.onMail g).link = s.link := by rfl
@[simp] theorem onMail_stream : (s.onMail g).stream = s.stream := by rfl
@[simp] theorem onMail_points : (s.onMail g).points = s.points := by rfl
@[simp] theorem onMail_mail : (s.onMail g).mail = g s.mail := by rfl
@[simp] theorem onMail_pending : (s.onMail g).pending = s.pending := by rfl

end

section
variable (s : State) (n : Notice)

/-- Sending a notice changes the notices on their way alone. -/
theorem send_eq : s.send n = s.onMail (· ++ [n]) := rfl

/-- Taking a notice changes the notices on their way alone. -/
theorem taken_eq : s.taken n = s.onMail (·.erase n) := rfl

end

end Sys2Proof.Machine
end

