-- ==== Sys2Proof/Laws/Ops.lean ====
section
/-! SUPPORT. What the shared operations of Machine/Ops.lean can do: which parts of the state each of them leaves alone, and one
lemma for each that says what it answers. -/

namespace Sys2Proof.Machine

/-! ### A test in progress -/

/-- A test is in progress in TESTING and HELD. -/
theorem inTest_iff (s : State) : s.inTest = true ↔ s.frame.state = .testing ∨ s.frame.state = .held := by
  simp only [State.inTest]
  cases s.frame.state <;> simp [FrameState.inTest]

/-- No test is in progress in any other state. -/
theorem inTest_eq_false_iff (s : State) : s.inTest = false ↔ s.frame.state ≠ .testing ∧ s.frame.state ≠ .held := by
  rw [← Bool.not_eq_true, inTest_iff, not_or]

/-! ### Recording an occurrence -/

/-- Everything a recorded occurrence does: a pending kind's count rises; another kind becomes pending and is queued. -/
theorem record_eq (s : State) (k : EventKind) (d : Word32) (c : EventClass) :
    s.record k d c = match s.events.record k with
      | some r => { s with events := s.events.put k (some { r with count := saturate 255 r.count 1 }) }
      | none => { s with
          events := s.events.put k (some { count := 1, time := s.clock, detail := d, cls := c })
          link := if k.inSet s.events.enabled || c = .frameFault then
              { s.link with eventQueue := s.link.eventQueue ++ [k] } else s.link } := by
  unfold State.record
  cases s.events.record k with
  | some r => rfl
  | none => dsimp only; split <;> simp_all [State.onEvents, State.onLink]

section
variable (s : State) (k : EventKind) (d : Word32) (c : EventClass)

@[simp] theorem record_inputs : (s.record k d c).inputs = s.inputs := by rw [record_eq]; split <;> rfl
@[simp] theorem record_clock : (s.record k d c).clock = s.clock := by rw [record_eq]; split <;> rfl
@[simp] theorem record_frame : (s.record k d c).frame = s.frame := by rw [record_eq]; split <;> rfl
@[simp] theorem record_servo : (s.record k d c).servo = s.servo := by rw [record_eq]; split <;> rfl
@[simp] theorem record_force : (s.record k d c).force = s.force := by rw [record_eq]; split <;> rfl
@[simp] theorem record_ext : (s.record k d c).ext = s.ext := by rw [record_eq]; split <;> rfl
@[simp] theorem record_strain : (s.record k d c).strain = s.strain := by rw [record_eq]; split <;> rfl
@[simp] theorem record_seq : (s.record k d c).seq = s.seq := by rw [record_eq]; split <;> rfl
@[simp] theorem record_watches : (s.record k d c).watches = s.watches := by rw [record_eq]; split <;> rfl
@[simp] theorem record_hold : (s.record k d c).hold = s.hold := by rw [record_eq]; split <;> rfl
@[simp] theorem record_recs : (s.record k d c).recs = s.recs := by rw [record_eq]; split <;> rfl
@[simp] theorem record_eval : (s.record k d c).eval = s.eval := by rw [record_eq]; split <;> rfl
@[simp] theorem record_stream : (s.record k d c).stream = s.stream := by rw [record_eq]; split <;> rfl
@[simp] theorem record_points : (s.record k d c).points = s.points := by rw [record_eq]; split <;> rfl
@[simp] theorem record_mail : (s.record k d c).mail = s.mail := by rw [record_eq]; split <;> rfl
@[simp] theorem record_pending : (s.record k d c).pending = s.pending := by rw [record_eq]; split <;> rfl
@[simp] theorem record_link_rx : (s.record k d c).link.rx = s.link.rx := by
  rw [record_eq]; split <;> (try split) <;> rfl
@[simp] theorem record_link_rxTimer : (s.record k d c).link.rxTimer = s.link.rxTimer := by
  rw [record_eq]; split <;> (try split) <;> rfl
@[simp] theorem record_link_slots : (s.record k d c).link.slots = s.link.slots := by
  rw [record_eq]; split <;> (try split) <;> rfl
@[simp] theorem record_link_replies : (s.record k d c).link.replies = s.link.replies := by
  rw [record_eq]; split <;> (try split) <;> rfl
@[simp] theorem record_link_streamQueue : (s.record k d c).link.streamQueue = s.link.streamQueue := by
  rw [record_eq]; split <;> (try split) <;> rfl
@[simp] theorem record_link_tx : (s.record k d c).link.tx = s.link.tx := by
  rw [record_eq]; split <;> (try split) <;> rfl
@[simp] theorem record_enabled : (s.record k d c).events.enabled = s.events.enabled := by rw [record_eq]; split <;> rfl
@[simp] theorem record_severities : (s.record k d c).events.severities = s.events.severities := by
  rw [record_eq]; split <;> rfl
@[simp] theorem record_inTest : (s.record k d c).inTest = s.inTest := by simp [State.inTest]
@[simp] theorem record_program : (s.record k d c).program = s.program := by simp [State.program]
@[simp] theorem record_classOf (j : EventKind) : (s.record k d c).classOf j = s.classOf j := by
  cases j <;> simp [State.classOf]

end

/-- The codes of two kinds differ where the kinds do (section 10.1). -/
theorem EventKind.code_inj {j k : EventKind} : j.code.val = k.code.val ↔ j = k := by
  cases j <;> cases k <;> decide

/-- The record of a kind after its replacement. -/
@[simp] theorem Events.record_put (e : Events) (k j : EventKind) (r : Option Occurred) :
    (e.put k r).record j = if j = k then r else e.record j := by
  change (e.records.set k.code.val r k.code.isLt)[j.code.val] = if j = k then r else e.records[j.code.val]
  rw [Vector.getElem_set]
  exact if_congr (eq_comm.trans EventKind.code_inj) rfl rfl

@[simp] theorem Events.put_enabled (e : Events) (k : EventKind) (r : Option Occurred) :
    (e.put k r).enabled = e.enabled := rfl
@[simp] theorem Events.put_severities (e : Events) (k : EventKind) (r : Option Occurred) :
    (e.put k r).severities = e.severities := rfl

/-- Another kind's record is left alone by an occurrence. -/
@[simp] theorem record_record_ne (s : State) {j k : EventKind} (h : j ≠ k) (d : Word32) (c : EventClass) :
    (s.record k d c).events.record j = s.events.record j := by
  rw [record_eq]; split <;> simp [h]

/-- The kind's own record after an occurrence of it (R178, R179). -/
theorem record_record_self (s : State) (k : EventKind) (d : Word32) (c : EventClass) :
    (s.record k d c).events.record k = some (s.events.oneMore k s.clock d c) := by
  rw [record_eq, Events.oneMore]
  cases h : s.events.record k <;> simp [saturate]

/-- Another kind's next record is left alone by an occurrence. -/
@[simp] theorem oneMore_record_ne (s : State) {j k : EventKind} (h : j ≠ k) (d d' t : Word32) (c c' : EventClass) :
    (s.record k d c).events.oneMore j t d' c' = s.events.oneMore j t d' c' := by
  simp [Events.oneMore, h]

/-- A kind that has occurred is pending. -/
@[simp] theorem record_pending_self (s : State) (k : EventKind) (d : Word32) (c : EventClass) :
    ((s.record k d c).events.record k).isSome = true := by
  rw [record_eq]; split <;> simp

/-- A pending kind stays pending. -/
theorem record_keeps (s : State) {j : EventKind} (k : EventKind) (d : Word32) (c : EventClass)
    (h : (s.events.record j).isSome = true) : ((s.record k d c).events.record j).isSome = true := by
  by_cases hj : j = k
  · subst hj; simp
  · simpa [hj] using h

/-! ### The class of a kind (section 10.1, R177) -/

section
variable (s : State)

@[simp] theorem classOf_driveReady : s.classOf .driveReady = .info := rfl
@[simp] theorem classOf_testStarted : s.classOf .testStarted = .info := rfl
@[simp] theorem classOf_stageEntered : s.classOf .stageEntered = .info := rfl
@[simp] theorem classOf_fitClosed : s.classOf .fitClosed = .info := rfl
@[simp] theorem classOf_yieldFound : s.classOf .yieldFound = .info := rfl
@[simp] theorem classOf_fmaxPassed : s.classOf .fmaxPassed = .info := rfl
@[simp] theorem classOf_extRemoved : s.classOf .extRemoved = .info := rfl
@[simp] theorem classOf_breakDetected : s.classOf .breakDetected = .info := rfl
@[simp] theorem classOf_testEnded : s.classOf .testEnded = .info := rfl
@[simp] theorem classOf_resultReady : s.classOf .resultReady = .info := rfl
@[simp] theorem classOf_returnDone : s.classOf .returnDone = .info := rfl
@[simp] theorem classOf_watchFired : s.classOf .watchFired = .info := rfl
@[simp] theorem classOf_heldEntered : s.classOf .heldEntered = .info := rfl
@[simp] theorem classOf_moveIncomplete : s.classOf .moveIncomplete = .warning := rfl
@[simp] theorem classOf_rateClamped : s.classOf .rateClamped = .warning := rfl
@[simp] theorem classOf_extCheck : s.classOf .extCheck = .warning := rfl
@[simp] theorem classOf_extSlip : s.classOf .extSlip = .warning := rfl
@[simp] theorem classOf_linkRxError : s.classOf .linkRxError = .warning := rfl
@[simp] theorem classOf_streamLoss : s.classOf .streamLoss = .warning := rfl
@[simp] theorem classOf_fitInvalid : s.classOf .fitInvalid = .warning := rfl
@[simp] theorem classOf_forceOverrange : s.classOf .forceOverrange = .testFault := rfl
@[simp] theorem classOf_forceLimit : s.classOf .forceLimit = .testFault := rfl
@[simp] theorem classOf_estop : s.classOf .estop = .frameFault := rfl
@[simp] theorem classOf_limitSwitch : s.classOf .limitSwitch = .frameFault := rfl
@[simp] theorem classOf_driveTimeout : s.classOf .driveTimeout = .frameFault := rfl
@[simp] theorem classOf_driveLost : s.classOf .driveLost = .frameFault := rfl
@[simp] theorem classOf_overload : s.classOf .overload = .frameFault := rfl
theorem classOf_extGap : s.classOf .extGap = s.events.severities.extGap.toClass := rfl
theorem classOf_extLost : s.classOf .extLost = s.events.severities.extLost.toClass := rfl
theorem classOf_extRemovalTimeout : s.classOf .extRemovalTimeout = s.events.severities.extRemovalTimeout.toClass := rfl
theorem classOf_travelLimit : s.classOf .travelLimit = s.events.severities.travelLimit.toClass := rfl

end

/-- An occurrence of class INFO or WARNING is recorded and has no other effect (R181). -/
theorem raise_of_mild (s : State) (k : EventKind) (d : Word32) (h : s.classOf k = .info ∨ s.classOf k = .warning) :
    s.raise k d = s.record k d (s.classOf k) := by
  unfold State.raise
  rcases h with h | h <;> rw [h] <;> rfl

section
variable (s : State) (d : Word32)

@[simp] theorem raise_driveReady : s.raise .driveReady d = s.record .driveReady d .info := rfl
@[simp] theorem raise_testStarted : s.raise .testStarted d = s.record .testStarted d .info := rfl
@[simp] theorem raise_stageEntered : s.raise .stageEntered d = s.record .stageEntered d .info := rfl
@[simp] theorem raise_fitClosed : s.raise .fitClosed d = s.record .fitClosed d .info := rfl
@[simp] theorem raise_yieldFound : s.raise .yieldFound d = s.record .yieldFound d .info := rfl
@[simp] theorem raise_fmaxPassed : s.raise .fmaxPassed d = s.record .fmaxPassed d .info := rfl
@[simp] theorem raise_extRemoved : s.raise .extRemoved d = s.record .extRemoved d .info := rfl
@[simp] theorem raise_breakDetected : s.raise .breakDetected d = s.record .breakDetected d .info := rfl
@[simp] theorem raise_testEnded : s.raise .testEnded d = s.record .testEnded d .info := rfl
@[simp] theorem raise_resultReady : s.raise .resultReady d = s.record .resultReady d .info := rfl
@[simp] theorem raise_returnDone : s.raise .returnDone d = s.record .returnDone d .info := rfl
@[simp] theorem raise_watchFired : s.raise .watchFired d = s.record .watchFired d .info := rfl
@[simp] theorem raise_heldEntered : s.raise .heldEntered d = s.record .heldEntered d .info := rfl
@[simp] theorem raise_moveIncomplete : s.raise .moveIncomplete d = s.record .moveIncomplete d .warning := rfl
@[simp] theorem raise_rateClamped : s.raise .rateClamped d = s.record .rateClamped d .warning := rfl
@[simp] theorem raise_extCheck : s.raise .extCheck d = s.record .extCheck d .warning := rfl
@[simp] theorem raise_extSlip : s.raise .extSlip d = s.record .extSlip d .warning := rfl
@[simp] theorem raise_linkRxError : s.raise .linkRxError d = s.record .linkRxError d .warning := rfl
@[simp] theorem raise_streamLoss : s.raise .streamLoss d = s.record .streamLoss d .warning := rfl
@[simp] theorem raise_fitInvalid : s.raise .fitInvalid d = s.record .fitInvalid d .warning := rfl

/-- An occurrence of class TEST_FAULT ends a test in progress (R182). -/
theorem raise_of_testFault (k : EventKind) (h : s.classOf k = .testFault) :
    s.raise k d = if s.inTest then (s.record k d .testFault).endTest .testFault k.code.val
      else s.record k d .testFault := by
  unfold State.raise State.classEffect
  rw [h]; simp

/-- An occurrence of class FRAME_FAULT faults a frame that is not UNDEFINED and ends a test in progress (R183, R14). -/
theorem raise_of_frameFault (k : EventKind) (h : s.classOf k = .frameFault) :
    s.raise k d = (s.record k d .frameFault).frameFault k d := by
  unfold State.raise State.classEffect
  rw [h]

end

/-! ### The test end sequence -/

section
variable (s : State) (o : TestOutcome) (n : Nat)

@[simp] theorem endTest_inputs : (s.endTest o n).inputs = s.inputs := by simp [State.endTest, State.closeResult, send_eq]
@[simp] theorem endTest_clock : (s.endTest o n).clock = s.clock := by simp [State.endTest, State.closeResult, send_eq]
@[simp] theorem endTest_force : (s.endTest o n).force = s.force := by simp [State.endTest, State.closeResult, send_eq]
@[simp] theorem endTest_ext : (s.endTest o n).ext = s.ext := by simp [State.endTest, State.closeResult, send_eq]
@[simp] theorem endTest_strain : (s.endTest o n).strain = s.strain := by simp [State.endTest, State.closeResult, send_eq]
@[simp] theorem endTest_watches : (s.endTest o n).watches = s.watches := by simp [State.endTest, State.closeResult, send_eq]
@[simp] theorem endTest_stream : (s.endTest o n).stream = s.stream := by simp [State.endTest, State.closeResult, send_eq]
@[simp] theorem endTest_points : (s.endTest o n).points = s.points := by simp [State.endTest, State.closeResult, send_eq]
@[simp] theorem endTest_pending : (s.endTest o n).pending = s.pending := by simp [State.endTest, State.closeResult, send_eq]
@[simp] theorem endTest_link_rx : (s.endTest o n).link.rx = s.link.rx := by
  simp [State.endTest, State.closeResult, send_eq]
@[simp] theorem endTest_link_rxTimer : (s.endTest o n).link.rxTimer = s.link.rxTimer := by
  simp [State.endTest, State.closeResult, send_eq]
@[simp] theorem endTest_link_slots : (s.endTest o n).link.slots = s.link.slots := by
  simp [State.endTest, State.closeResult, send_eq]
@[simp] theorem endTest_link_replies : (s.endTest o n).link.replies = s.link.replies := by
  simp [State.endTest, State.closeResult, send_eq]
@[simp] theorem endTest_link_streamQueue : (s.endTest o n).link.streamQueue = s.link.streamQueue := by
  simp [State.endTest, State.closeResult, send_eq]
@[simp] theorem endTest_link_tx : (s.endTest o n).link.tx = s.link.tx := by
  simp [State.endTest, State.closeResult, send_eq]
@[simp] theorem endTest_eval : (s.endTest o n).eval = { s.eval with phase := .ended } := by
  simp [State.endTest, State.closeResult, send_eq]
@[simp] theorem endTest_hold : (s.endTest o n).hold = { s.hold with causes := HoldCauses.empty } := by
  simp [State.endTest, State.closeResult, send_eq]
@[simp] theorem endTest_frame : (s.endTest o n).frame = s.frame.afterTest o
    (s.program.bind fun p => if p.returnEnabled then some p.returnSpeed else none) s.servo.startPos := by
  simp [State.endTest, State.closeResult, send_eq]
@[simp] theorem endTest_seq : (s.endTest o n).seq = s.seq.afterTest := by
  simp [State.endTest, State.closeResult, send_eq]
@[simp] theorem endTest_servo : (s.endTest o n).servo = { s.servo with entry := true } := by
  simp [State.endTest, State.closeResult, send_eq]
@[simp] theorem endTest_mail :
    (s.endTest o n).mail = s.mail ++ [.breakDetectionTestEnd, .strainSourceTestEnd] := by
  simp [State.endTest, State.closeResult, send_eq]
@[simp] theorem endTest_recs : (s.endTest o n).recs = { s.recs with
    test := none, results := s.recs.results ++ (s.recs.test.map fun t => s.resultOf t o n).toList } := by
  simp [State.endTest, State.closeResult, send_eq]
@[simp] theorem endTest_enabled : (s.endTest o n).events.enabled = s.events.enabled := by
  simp [State.endTest, State.closeResult, send_eq]
@[simp] theorem endTest_severities : (s.endTest o n).events.severities = s.events.severities := by
  simp [State.endTest, State.closeResult, send_eq]
theorem endTest_record_ne {k : EventKind} (h : k ≠ .testEnded) (h' : k ≠ .resultReady) :
    (s.endTest o n).events.record k = s.events.record k := by
  simp only [State.endTest, send_eq, onMail_events, onServo_events, onSeq_events, onFrame_events, onHold_events]
  rw [record_record_ne _ h', record_record_ne _ h]; rfl
theorem endTest_record_testEnded : (s.endTest o n).events.record .testEnded =
    some (s.events.oneMore .testEnded s.clock (BitVec.ofNat 32 o.code) .info) := by
  simp only [State.endTest, send_eq, onMail_events, onServo_events, onSeq_events, onFrame_events, onHold_events]
  rw [record_record_ne _ (by decide), record_record_self]; rfl
theorem endTest_record_resultReady : (s.endTest o n).events.record .resultReady = some (s.events.oneMore .resultReady
    s.clock (BitVec.ofNat 32 (s.closeResult o n).recs.results.length) .info) := by
  simp only [State.endTest, send_eq, onMail_events, onServo_events, onSeq_events, onFrame_events, onHold_events]
  rw [record_record_self, oneMore_record_ne _ (by decide), record_clock, record_recs]; rfl

/-- A frame in a test, after the end of the test, is in none. -/
theorem afterTest_inTest (f : Frame) (o : TestOutcome) (speed : Option Int) (pos : Int) (h : o ≠ .frameFault) :
    (f.afterTest o speed pos).state.inTest = false := by
  cases o <;> cases speed <;> simp_all [Frame.afterTest, FrameState.inTest]
  all_goals split <;> split at * <;> simp_all

end

/-! ### Raising, in general -/

section
variable (s : State) (k : EventKind) (d : Word32)

@[simp] theorem frameFault_inputs : (s.frameFault k d).inputs = s.inputs := by
  unfold State.frameFault; split <;> (try split) <;> simp
@[simp] theorem frameFault_clock : (s.frameFault k d).clock = s.clock := by
  unfold State.frameFault; split <;> (try split) <;> simp
@[simp] theorem frameFault_force : (s.frameFault k d).force = s.force := by
  unfold State.frameFault; split <;> (try split) <;> simp
@[simp] theorem frameFault_ext : (s.frameFault k d).ext = s.ext := by
  unfold State.frameFault; split <;> (try split) <;> simp
@[simp] theorem frameFault_strain : (s.frameFault k d).strain = s.strain := by
  unfold State.frameFault; split <;> (try split) <;> simp
@[simp] theorem frameFault_watches : (s.frameFault k d).watches = s.watches := by
  unfold State.frameFault; split <;> (try split) <;> simp
@[simp] theorem frameFault_stream : (s.frameFault k d).stream = s.stream := by
  unfold State.frameFault; split <;> (try split) <;> simp
@[simp] theorem frameFault_points : (s.frameFault k d).points = s.points := by
  unfold State.frameFault; split <;> (try split) <;> simp
@[simp] theorem frameFault_pending : (s.frameFault k d).pending = s.pending := by
  unfold State.frameFault; split <;> (try split) <;> simp
@[simp] theorem frameFault_link_rx : (s.frameFault k d).link.rx = s.link.rx := by
  unfold State.frameFault; split <;> (try split) <;> simp
@[simp] theorem frameFault_link_rxTimer : (s.frameFault k d).link.rxTimer = s.link.rxTimer := by
  unfold State.frameFault; split <;> (try split) <;> simp
@[simp] theorem frameFault_link_slots : (s.frameFault k d).link.slots = s.link.slots := by
  unfold State.frameFault; split <;> (try split) <;> simp
@[simp] theorem frameFault_link_replies : (s.frameFault k d).link.replies = s.link.replies := by
  unfold State.frameFault; split <;> (try split) <;> simp
@[simp] theorem frameFault_link_streamQueue : (s.frameFault k d).link.streamQueue = s.link.streamQueue := by
  unfold State.frameFault; split <;> (try split) <;> simp
@[simp] theorem frameFault_link_tx : (s.frameFault k d).link.tx = s.link.tx := by
  unfold State.frameFault; split <;> (try split) <;> simp
@[simp] theorem frameFault_enabled : (s.frameFault k d).events.enabled = s.events.enabled := by
  unfold State.frameFault; split <;> (try split) <;> simp
@[simp] theorem frameFault_severities : (s.frameFault k d).events.severities = s.events.severities := by
  unfold State.frameFault; split <;> (try split) <;> simp

@[simp] theorem classEffect_inputs (c : EventClass) : (s.classEffect k d c).inputs = s.inputs := by
  cases c <;> simp [State.classEffect]; split <;> simp
@[simp] theorem classEffect_clock (c : EventClass) : (s.classEffect k d c).clock = s.clock := by
  cases c <;> simp [State.classEffect]; split <;> simp
@[simp] theorem classEffect_force (c : EventClass) : (s.classEffect k d c).force = s.force := by
  cases c <;> simp [State.classEffect]; split <;> simp
@[simp] theorem classEffect_ext (c : EventClass) : (s.classEffect k d c).ext = s.ext := by
  cases c <;> simp [State.classEffect]; split <;> simp
@[simp] theorem classEffect_strain (c : EventClass) : (s.classEffect k d c).strain = s.strain := by
  cases c <;> simp [State.classEffect]; split <;> simp
@[simp] theorem classEffect_watches (c : EventClass) : (s.classEffect k d c).watches = s.watches := by
  cases c <;> simp [State.classEffect]; split <;> simp
@[simp] theorem classEffect_stream (c : EventClass) : (s.classEffect k d c).stream = s.stream := by
  cases c <;> simp [State.classEffect]; split <;> simp
@[simp] theorem classEffect_points (c : EventClass) : (s.classEffect k d c).points = s.points := by
  cases c <;> simp [State.classEffect]; split <;> simp
@[simp] theorem classEffect_pending (c : EventClass) : (s.classEffect k d c).pending = s.pending := by
  cases c <;> simp [State.classEffect]; split <;> simp
@[simp] theorem classEffect_link_rx (c : EventClass) : (s.classEffect k d c).link.rx = s.link.rx := by
  cases c <;> simp [State.classEffect]; split <;> simp
@[simp] theorem classEffect_link_rxTimer (c : EventClass) : (s.classEffect k d c).link.rxTimer = s.link.rxTimer := by
  cases c <;> simp [State.classEffect]; split <;> simp
@[simp] theorem classEffect_link_slots (c : EventClass) : (s.classEffect k d c).link.slots = s.link.slots := by
  cases c <;> simp [State.classEffect]; split <;> simp
@[simp] theorem classEffect_link_replies (c : EventClass) : (s.classEffect k d c).link.replies = s.link.replies := by
  cases c <;> simp [State.classEffect]; split <;> simp
@[simp] theorem classEffect_link_streamQueue (c : EventClass) : (s.classEffect k d c).link.streamQueue = s.link.streamQueue := by
  cases c <;> simp [State.classEffect]; split <;> simp
@[simp] theorem classEffect_link_tx (c : EventClass) : (s.classEffect k d c).link.tx = s.link.tx := by
  cases c <;> simp [State.classEffect]; split <;> simp
@[simp] theorem raise_inputs : (s.raise k d).inputs = s.inputs := by simp [State.raise]
@[simp] theorem raise_clock : (s.raise k d).clock = s.clock := by simp [State.raise]
@[simp] theorem raise_force : (s.raise k d).force = s.force := by simp [State.raise]
@[simp] theorem raise_ext : (s.raise k d).ext = s.ext := by simp [State.raise]
@[simp] theorem raise_strain : (s.raise k d).strain = s.strain := by simp [State.raise]
@[simp] theorem raise_watches : (s.raise k d).watches = s.watches := by simp [State.raise]
@[simp] theorem raise_stream : (s.raise k d).stream = s.stream := by simp [State.raise]
@[simp] theorem raise_points : (s.raise k d).points = s.points := by simp [State.raise]
@[simp] theorem raise_pending : (s.raise k d).pending = s.pending := by simp [State.raise]
@[simp] theorem raise_link_rx : (s.raise k d).link.rx = s.link.rx := by simp [State.raise]
@[simp] theorem raise_link_rxTimer : (s.raise k d).link.rxTimer = s.link.rxTimer := by simp [State.raise]
@[simp] theorem raise_link_slots : (s.raise k d).link.slots = s.link.slots := by simp [State.raise]
@[simp] theorem raise_link_replies : (s.raise k d).link.replies = s.link.replies := by simp [State.raise]
@[simp] theorem raise_link_streamQueue : (s.raise k d).link.streamQueue = s.link.streamQueue := by simp [State.raise]
@[simp] theorem raise_link_tx : (s.raise k d).link.tx = s.link.tx := by simp [State.raise]

end

end Sys2Proof.Machine
end

