-- ==== Sys2Proof/Laws/Link.lean ====
section
/-! SUPPORT. Requests: what a handler does to the link, and the outcome of a request whose frame finds the slots empty and a
place for its reply. -/

namespace Sys2Proof.Machine

/-! ### A frame placed in a slot -/

section
variable (s : State) (f : RequestFrame)

@[simp] theorem placed_inputs : (s.placed f).inputs = s.inputs := by rfl
@[simp] theorem placed_clock : (s.placed f).clock = s.clock := by rfl
@[simp] theorem placed_frame : (s.placed f).frame = s.frame := by rfl
@[simp] theorem placed_servo : (s.placed f).servo = s.servo := by rfl
@[simp] theorem placed_force : (s.placed f).force = s.force := by rfl
@[simp] theorem placed_ext : (s.placed f).ext = s.ext := by rfl
@[simp] theorem placed_strain : (s.placed f).strain = s.strain := by rfl
@[simp] theorem placed_seq : (s.placed f).seq = s.seq := by rfl
@[simp] theorem placed_watches : (s.placed f).watches = s.watches := by rfl
@[simp] theorem placed_hold : (s.placed f).hold = s.hold := by rfl
@[simp] theorem placed_recs : (s.placed f).recs = s.recs := by rfl
@[simp] theorem placed_eval : (s.placed f).eval = s.eval := by rfl
@[simp] theorem placed_events : (s.placed f).events = s.events := by rfl
@[simp] theorem placed_stream : (s.placed f).stream = s.stream := by rfl
@[simp] theorem placed_points : (s.placed f).points = s.points := by rfl
@[simp] theorem placed_mail : (s.placed f).mail = s.mail := by rfl
@[simp] theorem placed_pending : (s.placed f).pending = s.pending := by rfl
@[simp] theorem placed_link_rx : (s.placed f).link.rx = s.link.rx := by rfl
@[simp] theorem placed_link_rxTimer : (s.placed f).link.rxTimer = s.link.rxTimer := by rfl
@[simp] theorem placed_link_replies : (s.placed f).link.replies = s.link.replies := by rfl
@[simp] theorem placed_link_eventQueue : (s.placed f).link.eventQueue = s.link.eventQueue := by rfl
@[simp] theorem placed_link_streamQueue : (s.placed f).link.streamQueue = s.link.streamQueue := by rfl
@[simp] theorem placed_link_tx : (s.placed f).link.tx = s.link.tx := by rfl
@[simp] theorem placed_link_slots : (s.placed f).link.slots = s.link.slots ++ [f] := by rfl
@[simp] theorem placed_inTest : (s.placed f).inTest = s.inTest := by rfl
@[simp] theorem placed_committed : (s.placed f).committed = s.committed := by rfl
@[simp] theorem placed_program : (s.placed f).program = s.program := by rfl
@[simp] theorem placed_stageAt (n : Nat) : (s.placed f).stageAt n = s.stageAt n := by rfl
@[simp] theorem placed_classOf (k : EventKind) : (s.placed f).classOf k = s.classOf k := by cases k <;> rfl

theorem onInputs_placed (g : Inputs → Inputs) : (s.placed f).onInputs g = (s.onInputs g).placed f := rfl
theorem onFrame_placed (g : Frame → Frame) : (s.placed f).onFrame g = (s.onFrame g).placed f := rfl
theorem onServo_placed (g : Servo → Servo) : (s.placed f).onServo g = (s.onServo g).placed f := rfl
theorem onForce_placed (g : Force → Force) : (s.placed f).onForce g = (s.onForce g).placed f := rfl
theorem onExt_placed (g : Receiver → Receiver) : (s.placed f).onExt g = (s.onExt g).placed f := rfl
theorem onStrain_placed (g : Strain → Strain) : (s.placed f).onStrain g = (s.onStrain g).placed f := rfl
theorem onSeq_placed (g : Sequencer → Sequencer) : (s.placed f).onSeq g = (s.onSeq g).placed f := rfl
theorem onWatches_placed (g : Vector Watch 5 → Vector Watch 5) : (s.placed f).onWatches g = (s.onWatches g).placed f := rfl
theorem onHold_placed (g : Hold → Hold) : (s.placed f).onHold g = (s.onHold g).placed f := rfl
theorem onRecs_placed (g : Records → Records) : (s.placed f).onRecs g = (s.onRecs g).placed f := rfl
theorem onEval_placed (g : Evaluation → Evaluation) : (s.placed f).onEval g = (s.onEval g).placed f := rfl
theorem onEvents_placed (g : Events → Events) : (s.placed f).onEvents g = (s.onEvents g).placed f := rfl
theorem onStream_placed (g : Stream → Stream) : (s.placed f).onStream g = (s.onStream g).placed f := rfl
theorem onPoints_placed (g : Deliveries → Deliveries) : (s.placed f).onPoints g = (s.onPoints g).placed f := rfl
theorem onMail_placed (g : List Notice → List Notice) : (s.placed f).onMail g = (s.onMail g).placed f := rfl

/-- A queued or dropped transmit frame leaves the slots alone. -/
theorem onLink_placed (g : Link → Link) (h : ∀ l, g { l with slots := l.slots ++ [f] } = { g l with slots := (g l).slots ++ [f] }) :
    (s.placed f).onLink g = (s.onLink g).placed f := by
  unfold State.placed State.onLink
  simp only [h]

theorem record_placed (k : EventKind) (d : Word32) (c : EventClass) :
    (s.placed f).record k d c = (s.record k d c).placed f := by
  rw [record_eq, record_eq]
  simp only [placed_events]
  split
  · rfl
  · by_cases h : (k.inSet s.events.enabled || decide (c = .frameFault)) = true
    · rw [if_pos h, if_pos h]; rfl
    · rw [if_neg h, if_neg h]; rfl

theorem endTest_placed (o : TestOutcome) (n : Nat) : (s.placed f).endTest o n = (s.endTest o n).placed f := by
  have h : (s.placed f).closeResult o n = (s.closeResult o n).placed f := rfl
  unfold State.endTest
  simp only [h, record_placed, placed_program, placed_servo, placed_recs, onHold_placed, onFrame_placed, onSeq_placed,
    onServo_placed, send_eq, onMail_placed]

theorem frameFault_placed (k : EventKind) (d : Word32) : (s.placed f).frameFault k d = (s.frameFault k d).placed f := by
  unfold State.frameFault
  simp only [placed_frame, placed_inTest, onFrame_placed, placed_clock, endTest_placed]
  split_ifs <;> rfl

theorem classEffect_placed (k : EventKind) (d : Word32) (c : EventClass) :
    (s.placed f).classEffect k d c = (s.classEffect k d c).placed f := by
  cases c
  · rfl
  · rfl
  · simp only [State.classEffect, placed_inTest, endTest_placed]; split_ifs <;> rfl
  · simp only [State.classEffect, frameFault_placed]

theorem raise_placed (k : EventKind) (d : Word32) : (s.placed f).raise k d = (s.raise k d).placed f := by
  simp only [State.raise, placed_classOf, record_placed, classEffect_placed]

theorem setHold_placed (c : HoldCause) : (s.placed f).setHold c = (s.setHold c).placed f := by
  unfold State.setHold
  simp only [placed_frame]
  split
  · simp only [onHold_placed, onFrame_placed]
    have h1 : (s.placed f).holdsPosition = s.holdsPosition := rfl
    have h2 : (s.placed f).pausesTimers = s.pausesTimers := rfl
    simp only [h1, h2]
    cases s.holdsPosition <;> cases s.pausesTimers <;>
      simp only [Bool.false_eq_true, ↓reduceIte, onServo_placed, onSeq_placed, raise_placed]
  · rfl
  · rfl

theorem stopCrosshead_placed : (s.placed f).stopCrosshead = s.stopCrosshead.placed f := rfl

theorem clearKinds_placed (kinds : Word32) : (s.placed f).clearKinds kinds = (s.clearKinds kinds).placed f := rfl

theorem foldl_raise_placed {α : Type} (xs : List α) (k : α → EventKind) (d : α → Word32) :
    xs.foldl (fun t x => t.raise (k x) (d x)) (s.placed f) = (xs.foldl (fun t x => t.raise (k x) (d x)) s).placed f := by
  induction xs generalizing s with
  | nil => rfl
  | cons x xs ih => simp only [List.foldl_cons, raise_placed, ih]

theorem strainTestEnd_placed : (s.placed f).strainTestEnd = s.strainTestEnd.placed f := by
  unfold State.strainTestEnd
  have h : (s.placed f).unzeroedState = s.unzeroedState := rfl
  simp only [placed_inTest, placed_strain, h]
  split_ifs
  · rfl
  · cases s.strain.state <;> rfl

theorem settleStrain_placed : (s.placed f).settleStrain = s.settleStrain.placed f := by
  unfold State.settleStrain
  have h : (s.placed f).taken .strainSourceTestEnd = (s.taken .strainSourceTestEnd).placed f := rfl
  simp only [placed_mail, h, strainTestEnd_placed]
  split_ifs <;> rfl

theorem clearBreak_placed : (s.placed f).clearBreak = s.clearBreak.placed f := by
  unfold State.clearBreak
  simp only [placed_inTest]
  split_ifs <;> rfl

theorem settleEnds_placed : (s.placed f).settleEnds = s.settleEnds.placed f := by
  unfold State.settleEnds
  simp only [settleStrain_placed, placed_mail]
  have h : ∀ u : State, (u.placed f).taken .breakDetectionTestEnd = (u.taken .breakDetectionTestEnd).placed f :=
    fun u => rfl
  simp only [h, clearBreak_placed]
  split_ifs <;> rfl

theorem enterStage_placed (n c : Nat) : (s.placed f).enterStage n c = (s.enterStage n c).placed f := by
  unfold State.enterStage
  have h : (s.placed f).loadedTimer n = s.loadedTimer n := rfl
  simp only [h, onSeq_placed, raise_placed, placed_program]
  split_ifs <;> rfl

theorem startTest_placed (x : Specimen) (p : Program) : (s.placed f).startTest x p = (s.startTest x p).placed f := by
  unfold State.startTest
  have h : (s.placed f).settlePast = s.settlePast.placed f := by
    unfold State.settlePast
    simp only [settleEnds_placed]
    rfl
  have h2 : ∀ (u : State) (l : List Nat), (u.placed f).raiseClamped l = (u.raiseClamped l).placed f := fun u l =>
    foldl_raise_placed u f l _ _
  simp only [h, placed_servo, placed_frame, placed_clock, onRecs_placed, onFrame_placed, onServo_placed, onSeq_placed,
    h2, onForce_placed, onStrain_placed, onEval_placed, onWatches_placed, onHold_placed, enterStage_placed, raise_placed]

theorem resetModule_placed : (s.placed f).resetModule = s.resetModule.placed f := by
  unfold State.resetModule
  have h : ∀ u : State, (u.placed f).raiseCabinet = u.raiseCabinet.placed f := fun u => foldl_raise_placed u f _ _ _
  have h2 : ∀ u : State, (u.placed f).onLink (fun l => { l with streamQueue := [] }) =
      (u.onLink fun l => { l with streamQueue := [] }).placed f := fun u => rfl
  simp only [placed_inTest, endTest_placed]
  have h3 : (if s.inTest then (s.endTest .reset 0).placed f else s.placed f) =
      (if s.inTest then s.endTest .reset 0 else s).placed f := by split_ifs <;> rfl
  simp only [h3, settleEnds_placed, onHold_placed, onRecs_placed, onFrame_placed, onServo_placed, onWatches_placed,
    onSeq_placed, onStream_placed, h2, onStrain_placed, clearKinds_placed, h]

/-- A request's block does the same whether or not the request's frame stands in a slot, GET_STATUS apart, whose reply counts
the slots. -/
theorem perform_placed (r : Request) (hr : ∀ group, r ≠ .getStatus group) :
    perform r (s.placed f) = ((perform r s).1, (perform r s).2.placed f) := by
  cases r with
  | getStatus group => exact absurd rfl (hr group)

  | defineFrame d =>
    simp only [perform, handleDefineFrame, placed_committed]; split_ifs <;> [rfl; (split <;> rfl)]
  | commitFrame =>
    simp only [perform, handleCommitFrame, placed_committed, placed_frame]; split_ifs <;> [rfl; (split <;> rfl)]
  | setLoop channel kp ki kf =>
    simp only [perform, handleSetLoop, placed_frame]
    split <;> first | rfl | (split <;> [rfl; (split <;> rfl)])
  | driveOn =>
    simp only [perform, handleDriveOn, placed_frame, placed_inputs, State.driveBecomesReady, onFrame_placed, raise_placed]
    split_ifs <;> rfl
  | driveOff => simp only [perform, handleDriveOff, placed_frame]; split <;> rfl
  | clearFault => simp only [perform, handleClearFault, placed_frame, placed_inputs]; split_ifs <;> rfl
  | jog speed =>
    simp only [perform, handleJog, placed_frame]
    split <;> first | rfl | (split_ifs <;> rfl)
  | moveTo target speed =>
    simp only [perform, handleMoveTo, placed_frame]
    split <;> first | rfl | (split_ifs <;> rfl)
  | stopMove => simp only [perform, handleStopMove, placed_frame]; split <;> rfl
  | setPosition value => simp only [perform, handleSetPosition, placed_frame]; split <;> rfl
  | setOverride percent => simp only [perform, handleSetOverride, placed_inTest]; split_ifs <;> rfl
  | tare => simp only [perform, handleTare, placed_inTest]; split_ifs <;> rfl
  | setFilter n => simp only [perform, handleSetFilter, placed_inTest]; split_ifs <;> rfl
  | zeroExt gauge => simp only [perform, handleZeroExt, placed_inTest, placed_strain]; split_ifs <;> rfl
  | loadProgram slot program =>
    have h : ∀ n, (s.placed f).slotInUse n = s.slotInUse n := fun n => rfl
    simp only [perform, handleLoadProgram, h]
    split_ifs <;> first | rfl | (split <;> first | rfl | (split <;> rfl))
  | addSpecimen specimen =>
    simp only [perform, handleAddSpecimen, placed_recs]
    split <;> first | rfl | (split_ifs <;> rfl)
  | dropSpecimen id => simp only [perform, handleDropSpecimen, placed_recs]; split_ifs <;> rfl
  | readQueue first => simp only [perform, handleReadQueue, placed_recs]; split_ifs <;> rfl
  | testStart =>
    have h : (s.placed f).startCheck = s.startCheck := rfl
    simp only [perform, handleTestStart, h]
    split
    · rfl
    · simp only [startTest_placed]
  | abortTest =>
    simp only [perform, handleAbortTest, placed_frame, endTest_placed, stopCrosshead_placed]; split <;> rfl
  | holdTest => simp only [perform, handleHoldTest, placed_inTest, setHold_placed]; split_ifs <;> rfl
  | clearHold causes => simp only [perform, handleClearHold, placed_inTest]; split_ifs <;> rfl
  | resumeTest =>
    have h : (s.placed f).holdsPosition = s.holdsPosition := rfl
    simp only [perform, handleResumeTest, placed_frame, placed_hold, h]
    split_ifs <;> rfl
  | setWatch index watch =>
    simp only [perform, handleSetWatch, placed_inTest, placed_watches]
    split_ifs <;> first | rfl | (split <;> rfl)
  | readResult id =>
    simp only [perform, handleReadResult, placed_recs]
    split
    · rfl
    · split
      · rfl
      · split_ifs <;> [rfl; (split <;> rfl)]
  | deleteResult id => simp only [perform, handleDeleteResult, placed_recs]; split_ifs <;> rfl
  | setReporting kinds => simp only [perform, handleSetReporting]; split_ifs <;> rfl
  | setSeverity kind severity =>
    simp only [perform, handleSetSeverity]; split <;> [rfl; (split <;> rfl)]
  | readEvents => rfl
  | clearEvents kinds => simp only [perform, handleClearEvents, clearKinds_placed]; split_ifs <;> rfl
  | injectEvent kind => simp only [perform, handleInjectEvent, raise_placed]; split <;> rfl
  | setStream period idle => simp only [perform, handleSetStream]; split <;> rfl
  | streamOn => rfl
  | streamOff => rfl
  | describe => rfl
  | reset => simp only [perform, handleReset, resetModule_placed]

end

/-! ### What the blocks leave of the link -/

section
variable (s : State)

@[simp] theorem setHold_link_rx (c : HoldCause) : (s.setHold c).link.rx = s.link.rx := by
  unfold State.setHold; split <;> (repeat' split) <;> simp
@[simp] theorem strainTestEnd_link_rx : s.strainTestEnd.link.rx = s.link.rx := by
  unfold State.strainTestEnd; split_ifs <;> [rfl; (cases s.strain.state <;> rfl)]
@[simp] theorem settleStrain_link_rx : s.settleStrain.link.rx = s.link.rx := by
  unfold State.settleStrain; split_ifs <;> simp [taken_eq]
@[simp] theorem clearBreak_link_rx : s.clearBreak.link.rx = s.link.rx := by
  unfold State.clearBreak; split_ifs <;> simp
@[simp] theorem settleEnds_link_rx : s.settleEnds.link.rx = s.link.rx := by
  unfold State.settleEnds; simp only; split_ifs <;> simp [taken_eq]
@[simp] theorem enterStage_link_rx (n c : Nat) : (s.enterStage n c).link.rx = s.link.rx := by
  unfold State.enterStage; simp only; split_ifs <;> simp [send_eq]
@[simp] theorem foldl_raise_link_rx {α : Type} (xs : List α) (k : α → EventKind) (d : α → Word32) :
    (xs.foldl (fun t x => t.raise (k x) (d x)) s).link.rx = s.link.rx := by
  induction xs generalizing s <;> simp [*]
@[simp] theorem raiseClamped_link_rx (l : List Nat) : (s.raiseClamped l).link.rx = s.link.rx :=
  foldl_raise_link_rx s l _ _
@[simp] theorem startTest_link_rx (h : Specimen) (p : Program) : (s.startTest h p).link.rx = s.link.rx := by
  simp [State.startTest, State.settlePast]
@[simp] theorem resetModule_link_rx : s.resetModule.link.rx = s.link.rx := by
  simp only [State.resetModule, State.raiseCabinet, foldl_raise_link_rx, State.clearKinds]
  simp; split_ifs <;> simp
@[simp] theorem perform_link_rx (r : Request) : (perform r s).2.link.rx = s.link.rx := by
  cases r <;> simp only [perform, handleDefineFrame, handleCommitFrame, handleSetLoop, handleDriveOn, handleDriveOff,
    handleClearFault, handleJog, handleMoveTo, handleStopMove, handleSetPosition, handleSetOverride, handleTare,
    handleSetFilter, handleZeroExt, handleLoadProgram, handleAddSpecimen, handleDropSpecimen, handleReadQueue,
    handleTestStart, handleAbortTest, handleHoldTest, handleClearHold, handleResumeTest, handleSetWatch, handleReadResult,
    handleDeleteResult, handleSetReporting, handleSetSeverity, handleReadEvents, handleClearEvents, handleInjectEvent,
    handleSetStream, handleStreamOn, handleStreamOff, handleGetStatus, handleDescribe, handleReset]
  all_goals (repeat' split) <;> simp [State.driveBecomesReady, State.stopCrosshead, State.clearKinds]
@[simp] theorem setHold_link_rxTimer (c : HoldCause) : (s.setHold c).link.rxTimer = s.link.rxTimer := by
  unfold State.setHold; split <;> (repeat' split) <;> simp
@[simp] theorem strainTestEnd_link_rxTimer : s.strainTestEnd.link.rxTimer = s.link.rxTimer := by
  unfold State.strainTestEnd; split_ifs <;> [rfl; (cases s.strain.state <;> rfl)]
@[simp] theorem settleStrain_link_rxTimer : s.settleStrain.link.rxTimer = s.link.rxTimer := by
  unfold State.settleStrain; split_ifs <;> simp [taken_eq]
@[simp] theorem clearBreak_link_rxTimer : s.clearBreak.link.rxTimer = s.link.rxTimer := by
  unfold State.clearBreak; split_ifs <;> simp
@[simp] theorem settleEnds_link_rxTimer : s.settleEnds.link.rxTimer = s.link.rxTimer := by
  unfold State.settleEnds; simp only; split_ifs <;> simp [taken_eq]
@[simp] theorem enterStage_link_rxTimer (n c : Nat) : (s.enterStage n c).link.rxTimer = s.link.rxTimer := by
  unfold State.enterStage; simp only; split_ifs <;> simp [send_eq]
@[simp] theorem foldl_raise_link_rxTimer {α : Type} (xs : List α) (k : α → EventKind) (d : α → Word32) :
    (xs.foldl (fun t x => t.raise (k x) (d x)) s).link.rxTimer = s.link.rxTimer := by
  induction xs generalizing s <;> simp [*]
@[simp] theorem raiseClamped_link_rxTimer (l : List Nat) : (s.raiseClamped l).link.rxTimer = s.link.rxTimer :=
  foldl_raise_link_rxTimer s l _ _
@[simp] theorem startTest_link_rxTimer (h : Specimen) (p : Program) : (s.startTest h p).link.rxTimer = s.link.rxTimer := by
  simp [State.startTest, State.settlePast]
@[simp] theorem resetModule_link_rxTimer : s.resetModule.link.rxTimer = s.link.rxTimer := by
  simp only [State.resetModule, State.raiseCabinet, foldl_raise_link_rxTimer, State.clearKinds]
  simp; split_ifs <;> simp
@[simp] theorem perform_link_rxTimer (r : Request) : (perform r s).2.link.rxTimer = s.link.rxTimer := by
  cases r <;> simp only [perform, handleDefineFrame, handleCommitFrame, handleSetLoop, handleDriveOn, handleDriveOff,
    handleClearFault, handleJog, handleMoveTo, handleStopMove, handleSetPosition, handleSetOverride, handleTare,
    handleSetFilter, handleZeroExt, handleLoadProgram, handleAddSpecimen, handleDropSpecimen, handleReadQueue,
    handleTestStart, handleAbortTest, handleHoldTest, handleClearHold, handleResumeTest, handleSetWatch, handleReadResult,
    handleDeleteResult, handleSetReporting, handleSetSeverity, handleReadEvents, handleClearEvents, handleInjectEvent,
    handleSetStream, handleStreamOn, handleStreamOff, handleGetStatus, handleDescribe, handleReset]
  all_goals (repeat' split) <;> simp [State.driveBecomesReady, State.stopCrosshead, State.clearKinds]
@[simp] theorem setHold_link_slots (c : HoldCause) : (s.setHold c).link.slots = s.link.slots := by
  unfold State.setHold; split <;> (repeat' split) <;> simp
@[simp] theorem strainTestEnd_link_slots : s.strainTestEnd.link.slots = s.link.slots := by
  unfold State.strainTestEnd; split_ifs <;> [rfl; (cases s.strain.state <;> rfl)]
@[simp] theorem settleStrain_link_slots : s.settleStrain.link.slots = s.link.slots := by
  unfold State.settleStrain; split_ifs <;> simp [taken_eq]
@[simp] theorem clearBreak_link_slots : s.clearBreak.link.slots = s.link.slots := by
  unfold State.clearBreak; split_ifs <;> simp
@[simp] theorem settleEnds_link_slots : s.settleEnds.link.slots = s.link.slots := by
  unfold State.settleEnds; simp only; split_ifs <;> simp [taken_eq]
@[simp] theorem enterStage_link_slots (n c : Nat) : (s.enterStage n c).link.slots = s.link.slots := by
  unfold State.enterStage; simp only; split_ifs <;> simp [send_eq]
@[simp] theorem foldl_raise_link_slots {α : Type} (xs : List α) (k : α → EventKind) (d : α → Word32) :
    (xs.foldl (fun t x => t.raise (k x) (d x)) s).link.slots = s.link.slots := by
  induction xs generalizing s <;> simp [*]
@[simp] theorem raiseClamped_link_slots (l : List Nat) : (s.raiseClamped l).link.slots = s.link.slots :=
  foldl_raise_link_slots s l _ _
@[simp] theorem startTest_link_slots (h : Specimen) (p : Program) : (s.startTest h p).link.slots = s.link.slots := by
  simp [State.startTest, State.settlePast]
@[simp] theorem resetModule_link_slots : s.resetModule.link.slots = s.link.slots := by
  simp only [State.resetModule, State.raiseCabinet, foldl_raise_link_slots, State.clearKinds]
  simp; split_ifs <;> simp
@[simp] theorem perform_link_slots (r : Request) : (perform r s).2.link.slots = s.link.slots := by
  cases r <;> simp only [perform, handleDefineFrame, handleCommitFrame, handleSetLoop, handleDriveOn, handleDriveOff,
    handleClearFault, handleJog, handleMoveTo, handleStopMove, handleSetPosition, handleSetOverride, handleTare,
    handleSetFilter, handleZeroExt, handleLoadProgram, handleAddSpecimen, handleDropSpecimen, handleReadQueue,
    handleTestStart, handleAbortTest, handleHoldTest, handleClearHold, handleResumeTest, handleSetWatch, handleReadResult,
    handleDeleteResult, handleSetReporting, handleSetSeverity, handleReadEvents, handleClearEvents, handleInjectEvent,
    handleSetStream, handleStreamOn, handleStreamOff, handleGetStatus, handleDescribe, handleReset]
  all_goals (repeat' split) <;> simp [State.driveBecomesReady, State.stopCrosshead, State.clearKinds]
@[simp] theorem setHold_link_replies (c : HoldCause) : (s.setHold c).link.replies = s.link.replies := by
  unfold State.setHold; split <;> (repeat' split) <;> simp
@[simp] theorem strainTestEnd_link_replies : s.strainTestEnd.link.replies = s.link.replies := by
  unfold State.strainTestEnd; split_ifs <;> [rfl; (cases s.strain.state <;> rfl)]
@[simp] theorem settleStrain_link_replies : s.settleStrain.link.replies = s.link.replies := by
  unfold State.settleStrain; split_ifs <;> simp [taken_eq]
@[simp] theorem clearBreak_link_replies : s.clearBreak.link.replies = s.link.replies := by
  unfold State.clearBreak; split_ifs <;> simp
@[simp] theorem settleEnds_link_replies : s.settleEnds.link.replies = s.link.replies := by
  unfold State.settleEnds; simp only; split_ifs <;> simp [taken_eq]
@[simp] theorem enterStage_link_replies (n c : Nat) : (s.enterStage n c).link.replies = s.link.replies := by
  unfold State.enterStage; simp only; split_ifs <;> simp [send_eq]
@[simp] theorem foldl_raise_link_replies {α : Type} (xs : List α) (k : α → EventKind) (d : α → Word32) :
    (xs.foldl (fun t x => t.raise (k x) (d x)) s).link.replies = s.link.replies := by
  induction xs generalizing s <;> simp [*]
@[simp] theorem raiseClamped_link_replies (l : List Nat) : (s.raiseClamped l).link.replies = s.link.replies :=
  foldl_raise_link_replies s l _ _
@[simp] theorem startTest_link_replies (h : Specimen) (p : Program) : (s.startTest h p).link.replies = s.link.replies := by
  simp [State.startTest, State.settlePast]
@[simp] theorem resetModule_link_replies : s.resetModule.link.replies = s.link.replies := by
  simp only [State.resetModule, State.raiseCabinet, foldl_raise_link_replies, State.clearKinds]
  simp; split_ifs <;> simp
@[simp] theorem perform_link_replies (r : Request) : (perform r s).2.link.replies = s.link.replies := by
  cases r <;> simp only [perform, handleDefineFrame, handleCommitFrame, handleSetLoop, handleDriveOn, handleDriveOff,
    handleClearFault, handleJog, handleMoveTo, handleStopMove, handleSetPosition, handleSetOverride, handleTare,
    handleSetFilter, handleZeroExt, handleLoadProgram, handleAddSpecimen, handleDropSpecimen, handleReadQueue,
    handleTestStart, handleAbortTest, handleHoldTest, handleClearHold, handleResumeTest, handleSetWatch, handleReadResult,
    handleDeleteResult, handleSetReporting, handleSetSeverity, handleReadEvents, handleClearEvents, handleInjectEvent,
    handleSetStream, handleStreamOn, handleStreamOff, handleGetStatus, handleDescribe, handleReset]
  all_goals (repeat' split) <;> simp [State.driveBecomesReady, State.stopCrosshead, State.clearKinds]
@[simp] theorem setHold_link_tx (c : HoldCause) : (s.setHold c).link.tx = s.link.tx := by
  unfold State.setHold; split <;> (repeat' split) <;> simp
@[simp] theorem strainTestEnd_link_tx : s.strainTestEnd.link.tx = s.link.tx := by
  unfold State.strainTestEnd; split_ifs <;> [rfl; (cases s.strain.state <;> rfl)]
@[simp] theorem settleStrain_link_tx : s.settleStrain.link.tx = s.link.tx := by
  unfold State.settleStrain; split_ifs <;> simp [taken_eq]
@[simp] theorem clearBreak_link_tx : s.clearBreak.link.tx = s.link.tx := by
  unfold State.clearBreak; split_ifs <;> simp
@[simp] theorem settleEnds_link_tx : s.settleEnds.link.tx = s.link.tx := by
  unfold State.settleEnds; simp only; split_ifs <;> simp [taken_eq]
@[simp] theorem enterStage_link_tx (n c : Nat) : (s.enterStage n c).link.tx = s.link.tx := by
  unfold State.enterStage; simp only; split_ifs <;> simp [send_eq]
@[simp] theorem foldl_raise_link_tx {α : Type} (xs : List α) (k : α → EventKind) (d : α → Word32) :
    (xs.foldl (fun t x => t.raise (k x) (d x)) s).link.tx = s.link.tx := by
  induction xs generalizing s <;> simp [*]
@[simp] theorem raiseClamped_link_tx (l : List Nat) : (s.raiseClamped l).link.tx = s.link.tx :=
  foldl_raise_link_tx s l _ _
@[simp] theorem startTest_link_tx (h : Specimen) (p : Program) : (s.startTest h p).link.tx = s.link.tx := by
  simp [State.startTest, State.settlePast]
@[simp] theorem resetModule_link_tx : s.resetModule.link.tx = s.link.tx := by
  simp only [State.resetModule, State.raiseCabinet, foldl_raise_link_tx, State.clearKinds]
  simp; split_ifs <;> simp
@[simp] theorem perform_link_tx (r : Request) : (perform r s).2.link.tx = s.link.tx := by
  cases r <;> simp only [perform, handleDefineFrame, handleCommitFrame, handleSetLoop, handleDriveOn, handleDriveOff,
    handleClearFault, handleJog, handleMoveTo, handleStopMove, handleSetPosition, handleSetOverride, handleTare,
    handleSetFilter, handleZeroExt, handleLoadProgram, handleAddSpecimen, handleDropSpecimen, handleReadQueue,
    handleTestStart, handleAbortTest, handleHoldTest, handleClearHold, handleResumeTest, handleSetWatch, handleReadResult,
    handleDeleteResult, handleSetReporting, handleSetSeverity, handleReadEvents, handleClearEvents, handleInjectEvent,
    handleSetStream, handleStreamOn, handleStreamOff, handleGetStatus, handleDescribe, handleReset]
  all_goals (repeat' split) <;> simp [State.driveBecomesReady, State.stopCrosshead, State.clearKinds]

/-- What the block of a request answers, as the state in which the reply has joined the queue. -/
theorem request_eq {f : RequestFrame} {h : State → Reply × State} (hs : s.free)
    (hp : h (s.placed f) = ((h s).1, (h s).2.placed f)) (hl : (h s).2.link.slots = s.link.slots) :
    s.request f h =
      .next ((h s).2.replying (f.kind + 0x80) f.tag (h s).1.status (h s).1.detail (h s).1.data) := by
  have hx : ((h s).2.placed f).link.slots.tail = (h s).2.link.slots := by simp [hl, hs.1]
  rw [State.request, if_pos hs, hp]
  simp only [answered, State.done, State.replying, Reply.frame, State.onLink, hx, placed_link_replies]
  rfl

/-- A request command whose frame finds the slots empty and a place for its reply: its block's effect and its reply. -/
theorem request_perform {f : RequestFrame} (r : Request) (hs : s.free) (hr : ∀ group, r ≠ .getStatus group) :
    s.request f (perform r) = .next ((perform r s).2.replying (f.kind + 0x80) f.tag (perform r s).1.status
      (perform r s).1.detail (perform r s).1.data) :=
  request_eq s hs (perform_placed s f r hr) (perform_link_slots s r)

end

end Sys2Proof.Machine
end

