-- ==== Sys2Proof/Laws/Records.lean ====
section
/-! SUPPORT. What the start of a test, the entry of a stage, the arrival of a test's end and RESET do to each block. -/

namespace Sys2Proof.Machine

/-! ### Runs of mild events -/

/-- Several occurrences of kinds that only are recorded change the event table and the event queue alone. -/
theorem foldl_record_eq {α : Type} (xs : List α) (k : α → EventKind) (d : α → Word32) (c : α → EventClass) (s : State) :
    ∃ e q, xs.foldl (fun t x => t.record (k x) (d x) (c x)) s =
        { s with events := e, link := { s.link with eventQueue := q } } ∧
      (∀ j, (∀ x ∈ xs, j ≠ k x) → e.record j = s.events.record j) ∧
      ∀ x ∈ xs, (e.record (k x)).isSome = true := by
  induction xs generalizing s with
  | nil => exact ⟨s.events, s.link.eventQueue, rfl, fun _ _ => rfl, fun _ h => absurd h (List.not_mem_nil)⟩
  | cons y ys ih =>
    obtain ⟨e, q, h, hne, hin⟩ := ih (s.record (k y) (d y) (c y))
    have keep : ∀ (zs : List α) (t : State) (j : EventKind), (t.events.record j).isSome = true →
        ((zs.foldl (fun t x => t.record (k x) (d x) (c x)) t).events.record j).isSome = true := by
      intro zs
      induction zs with
      | nil => exact fun t j hj => hj
      | cons z zs iz => exact fun t j hj => iz _ j (record_keeps t _ _ _ hj)
    refine ⟨e, q, ?_, ?_, ?_⟩
    · rw [List.foldl_cons, h, record_eq]
      split <;> (try split) <;> rfl
    · intro j hj
      rw [hne j fun x hx => hj x (List.mem_cons_of_mem _ hx), record_record_ne s (hj y List.mem_cons_self)]
    · intro x hx
      rcases List.mem_cons.1 hx with rfl | hx
      · have := keep ys (s.record (k x) (d x) (c x)) (k x) (record_pending_self s _ _ _)
        rwa [h] at this
      · exact hin x hx

/-! ### The entry of a stage -/

section
variable (s : State) (n c : Nat)

@[simp] theorem enterStage_inputs : (s.enterStage n c).inputs = s.inputs := by
  unfold State.enterStage; simp only; split_ifs <;> simp [send_eq]
@[simp] theorem enterStage_clock : (s.enterStage n c).clock = s.clock := by
  unfold State.enterStage; simp only; split_ifs <;> simp [send_eq]
@[simp] theorem enterStage_frame : (s.enterStage n c).frame = s.frame := by
  unfold State.enterStage; simp only; split_ifs <;> simp [send_eq]
@[simp] theorem enterStage_servo : (s.enterStage n c).servo = s.servo := by
  unfold State.enterStage; simp only; split_ifs <;> simp [send_eq]
@[simp] theorem enterStage_force : (s.enterStage n c).force = s.force := by
  unfold State.enterStage; simp only; split_ifs <;> simp [send_eq]
@[simp] theorem enterStage_ext : (s.enterStage n c).ext = s.ext := by
  unfold State.enterStage; simp only; split_ifs <;> simp [send_eq]
@[simp] theorem enterStage_strain : (s.enterStage n c).strain = s.strain := by
  unfold State.enterStage; simp only; split_ifs <;> simp [send_eq]
@[simp] theorem enterStage_watches : (s.enterStage n c).watches = s.watches := by
  unfold State.enterStage; simp only; split_ifs <;> simp [send_eq]
@[simp] theorem enterStage_hold : (s.enterStage n c).hold = s.hold := by
  unfold State.enterStage; simp only; split_ifs <;> simp [send_eq]
@[simp] theorem enterStage_recs : (s.enterStage n c).recs = s.recs := by
  unfold State.enterStage; simp only; split_ifs <;> simp [send_eq]
@[simp] theorem enterStage_eval : (s.enterStage n c).eval = s.eval := by
  unfold State.enterStage; simp only; split_ifs <;> simp [send_eq]
@[simp] theorem enterStage_stream : (s.enterStage n c).stream = s.stream := by
  unfold State.enterStage; simp only; split_ifs <;> simp [send_eq]
@[simp] theorem enterStage_points : (s.enterStage n c).points = s.points := by
  unfold State.enterStage; simp only; split_ifs <;> simp [send_eq]
@[simp] theorem enterStage_pending : (s.enterStage n c).pending = s.pending := by
  unfold State.enterStage; simp only; split_ifs <;> simp [send_eq]
@[simp] theorem enterStage_seq : (s.enterStage n c).seq =
    { s.seq with stage := some n, timeMark := false, timer := s.loadedTimer n } := by
  unfold State.enterStage; simp only; split_ifs <;> simp [send_eq]
theorem enterStage_record_ne {k : EventKind} (h : k ≠ .stageEntered) :
    (s.enterStage n c).events.record k = s.events.record k := by
  unfold State.enterStage; simp only; split_ifs <;> simp [send_eq, h]
theorem enterStage_record_stageEntered : ((s.enterStage n c).events.record .stageEntered).isSome = true := by
  unfold State.enterStage; simp only; split_ifs <;> simp [send_eq]
@[simp] theorem enterStage_enabled : (s.enterStage n c).events.enabled = s.events.enabled := by
  unfold State.enterStage; simp only; split_ifs <;> simp [send_eq]
@[simp] theorem enterStage_severities : (s.enterStage n c).events.severities = s.events.severities := by
  unfold State.enterStage; simp only; split_ifs <;> simp [send_eq]

end

/-! ### The ends of a test, taken by their blocks -/

section
variable (s : State)

@[simp] theorem strainTestEnd_inputs : s.strainTestEnd.inputs = s.inputs := by
  unfold State.strainTestEnd; split_ifs <;> [rfl; (cases s.strain.state <;> rfl)]
@[simp] theorem strainTestEnd_clock : s.strainTestEnd.clock = s.clock := by
  unfold State.strainTestEnd; split_ifs <;> [rfl; (cases s.strain.state <;> rfl)]
@[simp] theorem strainTestEnd_frame : s.strainTestEnd.frame = s.frame := by
  unfold State.strainTestEnd; split_ifs <;> [rfl; (cases s.strain.state <;> rfl)]
@[simp] theorem strainTestEnd_servo : s.strainTestEnd.servo = s.servo := by
  unfold State.strainTestEnd; split_ifs <;> [rfl; (cases s.strain.state <;> rfl)]
@[simp] theorem strainTestEnd_force : s.strainTestEnd.force = s.force := by
  unfold State.strainTestEnd; split_ifs <;> [rfl; (cases s.strain.state <;> rfl)]
@[simp] theorem strainTestEnd_ext : s.strainTestEnd.ext = s.ext := by
  unfold State.strainTestEnd; split_ifs <;> [rfl; (cases s.strain.state <;> rfl)]
@[simp] theorem strainTestEnd_seq : s.strainTestEnd.seq = s.seq := by
  unfold State.strainTestEnd; split_ifs <;> [rfl; (cases s.strain.state <;> rfl)]
@[simp] theorem strainTestEnd_watches : s.strainTestEnd.watches = s.watches := by
  unfold State.strainTestEnd; split_ifs <;> [rfl; (cases s.strain.state <;> rfl)]
@[simp] theorem strainTestEnd_hold : s.strainTestEnd.hold = s.hold := by
  unfold State.strainTestEnd; split_ifs <;> [rfl; (cases s.strain.state <;> rfl)]
@[simp] theorem strainTestEnd_recs : s.strainTestEnd.recs = s.recs := by
  unfold State.strainTestEnd; split_ifs <;> [rfl; (cases s.strain.state <;> rfl)]
@[simp] theorem strainTestEnd_eval : s.strainTestEnd.eval = s.eval := by
  unfold State.strainTestEnd; split_ifs <;> [rfl; (cases s.strain.state <;> rfl)]
@[simp] theorem strainTestEnd_events : s.strainTestEnd.events = s.events := by
  unfold State.strainTestEnd; split_ifs <;> [rfl; (cases s.strain.state <;> rfl)]
@[simp] theorem strainTestEnd_link : s.strainTestEnd.link = s.link := by
  unfold State.strainTestEnd; split_ifs <;> [rfl; (cases s.strain.state <;> rfl)]
@[simp] theorem strainTestEnd_stream : s.strainTestEnd.stream = s.stream := by
  unfold State.strainTestEnd; split_ifs <;> [rfl; (cases s.strain.state <;> rfl)]
@[simp] theorem strainTestEnd_points : s.strainTestEnd.points = s.points := by
  unfold State.strainTestEnd; split_ifs <;> [rfl; (cases s.strain.state <;> rfl)]
@[simp] theorem strainTestEnd_mail : s.strainTestEnd.mail = s.mail := by
  unfold State.strainTestEnd; split_ifs <;> [rfl; (cases s.strain.state <;> rfl)]
@[simp] theorem strainTestEnd_pending : s.strainTestEnd.pending = s.pending := by
  unfold State.strainTestEnd; split_ifs <;> [rfl; (cases s.strain.state <;> rfl)]
@[simp] theorem settleStrain_inputs : s.settleStrain.inputs = s.inputs := by
  unfold State.settleStrain; split_ifs <;> simp [taken_eq]
@[simp] theorem settleStrain_clock : s.settleStrain.clock = s.clock := by
  unfold State.settleStrain; split_ifs <;> simp [taken_eq]
@[simp] theorem settleStrain_frame : s.settleStrain.frame = s.frame := by
  unfold State.settleStrain; split_ifs <;> simp [taken_eq]
@[simp] theorem settleStrain_servo : s.settleStrain.servo = s.servo := by
  unfold State.settleStrain; split_ifs <;> simp [taken_eq]
@[simp] theorem settleStrain_force : s.settleStrain.force = s.force := by
  unfold State.settleStrain; split_ifs <;> simp [taken_eq]
@[simp] theorem settleStrain_ext : s.settleStrain.ext = s.ext := by
  unfold State.settleStrain; split_ifs <;> simp [taken_eq]
@[simp] theorem settleStrain_seq : s.settleStrain.seq = s.seq := by
  unfold State.settleStrain; split_ifs <;> simp [taken_eq]
@[simp] theorem settleStrain_watches : s.settleStrain.watches = s.watches := by
  unfold State.settleStrain; split_ifs <;> simp [taken_eq]
@[simp] theorem settleStrain_hold : s.settleStrain.hold = s.hold := by
  unfold State.settleStrain; split_ifs <;> simp [taken_eq]
@[simp] theorem settleStrain_recs : s.settleStrain.recs = s.recs := by
  unfold State.settleStrain; split_ifs <;> simp [taken_eq]
@[simp] theorem settleStrain_eval : s.settleStrain.eval = s.eval := by
  unfold State.settleStrain; split_ifs <;> simp [taken_eq]
@[simp] theorem settleStrain_events : s.settleStrain.events = s.events := by
  unfold State.settleStrain; split_ifs <;> simp [taken_eq]
@[simp] theorem settleStrain_link : s.settleStrain.link = s.link := by
  unfold State.settleStrain; split_ifs <;> simp [taken_eq]
@[simp] theorem settleStrain_stream : s.settleStrain.stream = s.stream := by
  unfold State.settleStrain; split_ifs <;> simp [taken_eq]
@[simp] theorem settleStrain_points : s.settleStrain.points = s.points := by
  unfold State.settleStrain; split_ifs <;> simp [taken_eq]
@[simp] theorem settleStrain_pending : s.settleStrain.pending = s.pending := by
  unfold State.settleStrain; split_ifs <;> simp [taken_eq]
@[simp] theorem clearBreak_inputs : s.clearBreak.inputs = s.inputs := by unfold State.clearBreak; split_ifs <;> rfl
@[simp] theorem clearBreak_clock : s.clearBreak.clock = s.clock := by unfold State.clearBreak; split_ifs <;> rfl
@[simp] theorem clearBreak_frame : s.clearBreak.frame = s.frame := by unfold State.clearBreak; split_ifs <;> rfl
@[simp] theorem clearBreak_servo : s.clearBreak.servo = s.servo := by unfold State.clearBreak; split_ifs <;> rfl
@[simp] theorem clearBreak_ext : s.clearBreak.ext = s.ext := by unfold State.clearBreak; split_ifs <;> rfl
@[simp] theorem clearBreak_strain : s.clearBreak.strain = s.strain := by unfold State.clearBreak; split_ifs <;> rfl
@[simp] theorem clearBreak_seq : s.clearBreak.seq = s.seq := by unfold State.clearBreak; split_ifs <;> rfl
@[simp] theorem clearBreak_watches : s.clearBreak.watches = s.watches := by unfold State.clearBreak; split_ifs <;> rfl
@[simp] theorem clearBreak_hold : s.clearBreak.hold = s.hold := by unfold State.clearBreak; split_ifs <;> rfl
@[simp] theorem clearBreak_recs : s.clearBreak.recs = s.recs := by unfold State.clearBreak; split_ifs <;> rfl
@[simp] theorem clearBreak_eval : s.clearBreak.eval = s.eval := by unfold State.clearBreak; split_ifs <;> rfl
@[simp] theorem clearBreak_events : s.clearBreak.events = s.events := by unfold State.clearBreak; split_ifs <;> rfl
@[simp] theorem clearBreak_link : s.clearBreak.link = s.link := by unfold State.clearBreak; split_ifs <;> rfl
@[simp] theorem clearBreak_stream : s.clearBreak.stream = s.stream := by unfold State.clearBreak; split_ifs <;> rfl
@[simp] theorem clearBreak_points : s.clearBreak.points = s.points := by unfold State.clearBreak; split_ifs <;> rfl
@[simp] theorem clearBreak_mail : s.clearBreak.mail = s.mail := by unfold State.clearBreak; split_ifs <;> rfl
@[simp] theorem clearBreak_pending : s.clearBreak.pending = s.pending := by unfold State.clearBreak; split_ifs <;> rfl
@[simp] theorem settleEnds_inputs : s.settleEnds.inputs = s.inputs := by
  unfold State.settleEnds; simp only; split_ifs <;> simp [taken_eq]
@[simp] theorem settleEnds_clock : s.settleEnds.clock = s.clock := by
  unfold State.settleEnds; simp only; split_ifs <;> simp [taken_eq]
@[simp] theorem settleEnds_frame : s.settleEnds.frame = s.frame := by
  unfold State.settleEnds; simp only; split_ifs <;> simp [taken_eq]
@[simp] theorem settleEnds_servo : s.settleEnds.servo = s.servo := by
  unfold State.settleEnds; simp only; split_ifs <;> simp [taken_eq]
@[simp] theorem settleEnds_ext : s.settleEnds.ext = s.ext := by
  unfold State.settleEnds; simp only; split_ifs <;> simp [taken_eq]
@[simp] theorem settleEnds_seq : s.settleEnds.seq = s.seq := by
  unfold State.settleEnds; simp only; split_ifs <;> simp [taken_eq]
@[simp] theorem settleEnds_watches : s.settleEnds.watches = s.watches := by
  unfold State.settleEnds; simp only; split_ifs <;> simp [taken_eq]
@[simp] theorem settleEnds_hold : s.settleEnds.hold = s.hold := by
  unfold State.settleEnds; simp only; split_ifs <;> simp [taken_eq]
@[simp] theorem settleEnds_recs : s.settleEnds.recs = s.recs := by
  unfold State.settleEnds; simp only; split_ifs <;> simp [taken_eq]
@[simp] theorem settleEnds_eval : s.settleEnds.eval = s.eval := by
  unfold State.settleEnds; simp only; split_ifs <;> simp [taken_eq]
@[simp] theorem settleEnds_events : s.settleEnds.events = s.events := by
  unfold State.settleEnds; simp only; split_ifs <;> simp [taken_eq]
@[simp] theorem settleEnds_link : s.settleEnds.link = s.link := by
  unfold State.settleEnds; simp only; split_ifs <;> simp [taken_eq]
@[simp] theorem settleEnds_stream : s.settleEnds.stream = s.stream := by
  unfold State.settleEnds; simp only; split_ifs <;> simp [taken_eq]
@[simp] theorem settleEnds_points : s.settleEnds.points = s.points := by
  unfold State.settleEnds; simp only; split_ifs <;> simp [taken_eq]
@[simp] theorem settleEnds_pending : s.settleEnds.pending = s.pending := by
  unfold State.settleEnds; simp only; split_ifs <;> simp [taken_eq]
@[simp] theorem strainTestEnd_inTest : s.strainTestEnd.inTest = s.inTest := by simp [State.inTest]
@[simp] theorem settleStrain_inTest : s.settleStrain.inTest = s.inTest := by simp [State.inTest]
@[simp] theorem settleEnds_inTest : s.settleEnds.inTest = s.inTest := by simp [State.inTest]
@[simp] theorem settleEnds_strain : s.settleEnds.strain = s.settleStrain.strain := by
  unfold State.settleEnds; simp only; split_ifs <;> simp [taken_eq]

/-- With no test end on its way to the strain source there is nothing to settle. -/
theorem settleStrain_of_not_mem (h : .strainSourceTestEnd ∉ s.mail) : s.settleStrain = s := if_neg h

/-- With neither end on its way there is nothing to settle. -/
theorem settleEnds_of_not_mem (h : .strainSourceTestEnd ∉ s.mail) (h2 : .breakDetectionTestEnd ∉ s.mail) :
    s.settleEnds = s := by
  unfold State.settleEnds
  rw [settleStrain_of_not_mem s h]
  exact if_neg h2

end

/-! ### The start of a test -/

section
variable (s : State) (h : Specimen) (p : Program)

@[simp] theorem raiseClamped_inputs (l : List Nat) : (s.raiseClamped l).inputs = s.inputs := by
  induction l generalizing s with
  | nil => rfl
  | cons n l ih => exact (ih _).trans (record_inputs s _ _ _)
@[simp] theorem raiseClamped_clock (l : List Nat) : (s.raiseClamped l).clock = s.clock := by
  induction l generalizing s with
  | nil => rfl
  | cons n l ih => exact (ih _).trans (record_clock s _ _ _)
@[simp] theorem raiseClamped_frame (l : List Nat) : (s.raiseClamped l).frame = s.frame := by
  induction l generalizing s with
  | nil => rfl
  | cons n l ih => exact (ih _).trans (record_frame s _ _ _)
@[simp] theorem raiseClamped_servo (l : List Nat) : (s.raiseClamped l).servo = s.servo := by
  induction l generalizing s with
  | nil => rfl
  | cons n l ih => exact (ih _).trans (record_servo s _ _ _)
@[simp] theorem raiseClamped_force (l : List Nat) : (s.raiseClamped l).force = s.force := by
  induction l generalizing s with
  | nil => rfl
  | cons n l ih => exact (ih _).trans (record_force s _ _ _)
@[simp] theorem raiseClamped_ext (l : List Nat) : (s.raiseClamped l).ext = s.ext := by
  induction l generalizing s with
  | nil => rfl
  | cons n l ih => exact (ih _).trans (record_ext s _ _ _)
@[simp] theorem raiseClamped_strain (l : List Nat) : (s.raiseClamped l).strain = s.strain := by
  induction l generalizing s with
  | nil => rfl
  | cons n l ih => exact (ih _).trans (record_strain s _ _ _)
@[simp] theorem raiseClamped_seq (l : List Nat) : (s.raiseClamped l).seq = s.seq := by
  induction l generalizing s with
  | nil => rfl
  | cons n l ih => exact (ih _).trans (record_seq s _ _ _)
@[simp] theorem raiseClamped_watches (l : List Nat) : (s.raiseClamped l).watches = s.watches := by
  induction l generalizing s with
  | nil => rfl
  | cons n l ih => exact (ih _).trans (record_watches s _ _ _)
@[simp] theorem raiseClamped_hold (l : List Nat) : (s.raiseClamped l).hold = s.hold := by
  induction l generalizing s with
  | nil => rfl
  | cons n l ih => exact (ih _).trans (record_hold s _ _ _)
@[simp] theorem raiseClamped_recs (l : List Nat) : (s.raiseClamped l).recs = s.recs := by
  induction l generalizing s with
  | nil => rfl
  | cons n l ih => exact (ih _).trans (record_recs s _ _ _)
@[simp] theorem raiseClamped_eval (l : List Nat) : (s.raiseClamped l).eval = s.eval := by
  induction l generalizing s with
  | nil => rfl
  | cons n l ih => exact (ih _).trans (record_eval s _ _ _)
@[simp] theorem raiseClamped_stream (l : List Nat) : (s.raiseClamped l).stream = s.stream := by
  induction l generalizing s with
  | nil => rfl
  | cons n l ih => exact (ih _).trans (record_stream s _ _ _)
@[simp] theorem raiseClamped_points (l : List Nat) : (s.raiseClamped l).points = s.points := by
  induction l generalizing s with
  | nil => rfl
  | cons n l ih => exact (ih _).trans (record_points s _ _ _)
@[simp] theorem raiseClamped_mail (l : List Nat) : (s.raiseClamped l).mail = s.mail := by
  induction l generalizing s with
  | nil => rfl
  | cons n l ih => exact (ih _).trans (record_mail s _ _ _)
@[simp] theorem raiseClamped_pending (l : List Nat) : (s.raiseClamped l).pending = s.pending := by
  induction l generalizing s with
  | nil => rfl
  | cons n l ih => exact (ih _).trans (record_pending s _ _ _)
theorem raiseClamped_record_ne (l : List Nat) {k : EventKind} (hk : k ≠ .rateClamped) :
    (s.raiseClamped l).events.record k = s.events.record k := by
  induction l generalizing s with
  | nil => rfl
  | cons n l ih => exact (ih _).trans (record_record_ne s hk _ _)

@[simp] theorem settlePast_inputs : s.settlePast.inputs = s.inputs := by simp [State.settlePast]
@[simp] theorem settlePast_clock : s.settlePast.clock = s.clock := by simp [State.settlePast]
@[simp] theorem settlePast_frame : s.settlePast.frame = s.frame := by simp [State.settlePast]
@[simp] theorem settlePast_servo : s.settlePast.servo = s.servo := by simp [State.settlePast]
@[simp] theorem settlePast_ext : s.settlePast.ext = s.ext := by simp [State.settlePast]
@[simp] theorem settlePast_seq : s.settlePast.seq = s.seq := by simp [State.settlePast]
@[simp] theorem settlePast_watches : s.settlePast.watches = s.watches := by simp [State.settlePast]
@[simp] theorem settlePast_hold : s.settlePast.hold = s.hold := by simp [State.settlePast]
@[simp] theorem settlePast_recs : s.settlePast.recs = s.recs := by simp [State.settlePast]
@[simp] theorem settlePast_eval : s.settlePast.eval = s.eval := by simp [State.settlePast]
@[simp] theorem settlePast_events : s.settlePast.events = s.events := by simp [State.settlePast]
@[simp] theorem settlePast_link : s.settlePast.link = s.link := by simp [State.settlePast]
@[simp] theorem settlePast_stream : s.settlePast.stream = s.stream := by simp [State.settlePast]
@[simp] theorem settlePast_pending : s.settlePast.pending = s.pending := by simp [State.settlePast]
@[simp] theorem settlePast_strain : s.settlePast.strain = s.settleStrain.strain := by simp [State.settlePast]
@[simp] theorem settlePast_force : s.settlePast.force = s.settleEnds.force := by simp [State.settlePast]

@[simp] theorem startTest_inputs : (s.startTest h p).inputs = s.inputs := by simp [State.startTest]
@[simp] theorem startTest_clock : (s.startTest h p).clock = s.clock := by simp [State.startTest]
@[simp] theorem startTest_ext : (s.startTest h p).ext = s.ext := by simp [State.startTest]
@[simp] theorem startTest_stream : (s.startTest h p).stream = s.stream := by simp [State.startTest]
@[simp] theorem startTest_pending : (s.startTest h p).pending = s.pending := by simp [State.startTest]

/-- The specimen leaves the queue and becomes the test in progress (R146). -/
@[simp] theorem startTest_recs : (s.startTest h p).recs = { s.recs with
    queue := s.recs.queue.tail, test := some { specimen := h, startTime := s.clock, pointMade := false } } := by
  simp [State.startTest]

@[simp] theorem startTest_frame : (s.startTest h p).frame = { s.frame with state := .testing, gateActed := false } := by
  simp [State.startTest]

@[simp] theorem startTest_servo : (s.startTest h p).servo = s.servo.start s.clock := by simp [State.startTest]

@[simp] theorem startTest_force : (s.startTest h p).force = s.settleEnds.force.start p.autoTare := by
  simp [State.startTest, Program.convert]

@[simp] theorem startTest_strain : (s.startTest h p).strain = s.settleStrain.strain.start h.parallel := by
  simp [State.startTest]

@[simp] theorem startTest_eval : (s.startTest h p).eval =
    Evaluation.start (p.convert h.s0 s.servo.latest.p s.frame.defn.vmax) h.s0 := by
  simp [State.startTest]

@[simp] theorem startTest_watches : (s.startTest h p).watches = s.watches.map (·.arm) := by simp [State.startTest]

@[simp] theorem startTest_hold : (s.startTest h p).hold = { s.hold with count := 0 } := by simp [State.startTest]

/-- The first stage is entered with entry cause 0 (R113). -/
theorem startTest_seq : (s.startTest h p).seq =
    { s.seq.start h.slot (p.convert h.s0 s.servo.latest.p s.frame.defn.vmax) with
      stage := some 0, timeMark := false, timer := (s.startTest h p).seq.timer } := by
  simp [State.startTest]

theorem startTest_record_ne {k : EventKind} (h1 : k ≠ .rateClamped) (h2 : k ≠ .stageEntered) (h3 : k ≠ .testStarted) :
    (s.startTest h p).events.record k = s.events.record k := by
  simp only [State.startTest, raise_testStarted, record_record_ne _ h3, enterStage_record_ne _ _ _ h2, onHold_events,
    onWatches_events, onEval_events, onStrain_events, onForce_events, raiseClamped_record_ne _ _ h1, onSeq_events,
    onServo_events, onFrame_events, onRecs_events, settlePast_events]

end

/-! ### The NEXT_STAGE actions on their way -/

/-- In a test a taken NEXT_STAGE ends the stage in force; outside one it only leaves its place. -/
theorem takeNextStage_eq (s : State) (time : Word32) :
    s.takeNextStage time = if s.inTest then (s.taken (.nextStage time)).stageEnd time 3 else s.taken (.nextStage time) := rfl

/-- With no NEXT_STAGE on its way there is nothing to take. -/
theorem settleStages_of_none {s : State} (h : nextStageTimes s.mail = []) : s.settleStages = s := by
  simp [State.settleStages, h]

/-- What the taking of one NEXT_STAGE keeps, the taking of all of them keeps. -/
theorem settleStages_keeps {P : State → Prop} (keeps : ∀ r time, P r → P (r.takeNextStage time)) {s : State} (h : P s) :
    P s.settleStages := by
  unfold State.settleStages
  generalize nextStageTimes s.mail = times
  induction times generalizing s with
  | nil => exact h
  | cons time rest ih => exact ih (keeps s time h)

end Sys2Proof.Machine
end

