-- ==== Sys2Proof/Tests/Slice0.lean ====
section
/-! SUPPORT. Tests of the model on the worked examples and tables of spec/, the smoke test of the well-formedness checks,
and a witness for the hypotheses of every statement that has any. Each is one step, or one operation, on a small state. -/

namespace Sys2Proof.Tests

-- one theorem after another: each check by evaluation is short, and so few threads are enough
set_option Elab.async false

open Sys2Proof Sys2Proof.Machine

/-! ### Sample states -/

/-- The state a command leaves; the state itself where the command would stop. -/
def after (c : Instr) (s : State) : State :=
  match exec c s with
  | .next t => t
  | .fault _ => s
  | .refused _ => s

/-- The bodies of the replies that wait. -/
def replies (s : State) : List (List Byte) := s.link.replies.map (·.body)

/-- The definition of the worked commit (section 1.2). -/
def worked : FrameDefinition :=
  { capacity := 250000, vmax := 8333, travelMin := -5000, travelMax := 900000, nmPerCount := 125, compliance := 1500,
    points := [{ raw := 0, force := 0 }, { raw := 4000000, force := 500000000 },
               { raw := 8000000, force := 1000400000 }] }

/-- A frame with the worked definition committed, in this state; the STRAIN gains are those of section 2.4. -/
def frameIn (x : FrameState) : State :=
  { State.reset with frame := { Frame.initial with
      state := x, status := .committed, defn := worked, gainsStrain := { kp := 655360, ki := 6554, kf := 1311 } } }

/-- The stage of the worked cases of section 2.4: STRAIN at 2,500 counts/s. -/
def strainStage : Stage :=
  { channel := .strain, rate := 2500, end1 := { kind := .never, value := 0 }, end2 := { kind := .never, value := 0 } }

/-- A program with these stages. -/
def programOf (stages : List Stage) : Program :=
  { extRequired := false, extLostAction := .continue, removalStrain := some 20000, removeAtNecking := true,
    removeBefore := none, removalTime := 3000, fitLower := 80000, fitUpper := 290000, rpOffset := 20000, yieldDrop := 5,
    guardStrain := 5000, margin := 10, neckingThreshold := 20, breakPct := 40, suddenPct := 10, breakMin := 1000,
    forceLimit := 100000, autoTare := false, returnEnabled := true, returnSpeed := 10000, holdMode := .holdPosition,
    timersInHold := .stop, streamInHold := .run, markerMode := .off, stages := stages }

/-- The ROUND specimen of 12 mm (section 8.1), of ID "A". -/
def specimen : Specimen :=
  { id := [0x41], slot := 0, shape := .round, dim1 := 12000, dim2 := 0, parallel := 200000, s0 := 113097 }

/-- A test in progress, in this frame state, in its first stage. -/
def testWith (x : FrameState) (stages : List Stage) : State :=
  { frameIn x with
    recs := { queue := [], test := some { specimen := specimen, startTime := 0, pointMade := true }, results := [] }
    seq := { Sequencer.initial with running := some { slot := 0, program := programOf stages }, stage := some 0 }
    servo := { Servo.initial with channel := .strain }
    strain := { Strain.initial with state := .derived, parallel := 200000 }
    eval := { Evaluation.initial with phase := .elastic } }

/-- A test in TESTING in the worked STRAIN stage. -/
def testing : State := testWith .testing [strainStage]

/-- A test in HELD in the worked STRAIN stage. -/
def held : State := testWith .held [strainStage]

/-- A READY frame with the specimen queued and its program loaded. -/
def startable : State :=
  { frameIn .ready with
    recs := { queue := [specimen], test := none, results := [] }
    seq := { Sequencer.initial with slots := Vector.replicate 4 (some (programOf [strainStage])) } }

/-- A result record of this ID. -/
def resultOf (id : List Byte) : Result := testing.resultOf { specimen := { specimen with id := id }, startTime := 0, pointMade := true } .aborted 0

/-- A test point of this force and strain, made in TESTING. -/
def pointOf (f eps : Int) : Point := { Point.initial with isTest := true, time := 7, f := f, eps := eps, stage := some 0 }

/-- The state with this test point sent to its four consumers. -/
def sent (s : State) (x : Point) : State :=
  { s with points := { sequencer := [x], watch := [x], evaluation := [x], removal := [x] } }

/-- A watch entry of the rearming worked sequence (section 7.2), with this state and previous value. -/
def serrated (x : WatchState) (before : Int) (action : WatchAction) : Watch :=
  { enabled := true, quantity := .force, level := 52000000, direction := .rising, action := action, rearm := .rearm,
    hysteresis := 500000, state := x, previous := some before }

/-- A test whose watch entry 2 is this one. -/
def watching (w : Watch) : State := { testing with watches := (Vector.replicate 5 Watch.initial).set 2 w }

/-- An ID field of one character "A". -/
def idA : RawId := { length := 1, places := 0x41 :: List.replicate 15 0 }

/-- A specimen record as sent. -/
def rawSpecimen : RawSpecimen := { id := idA, slot := 0, shape := 0, dim1 := 12000, dim2 := 0, parallel := 200000 }

/-- A watch record as sent: the rearming entry of section 7.2. -/
def rawWatch : RawWatch :=
  { enabled := 1, quantity := 0, level := 52000000, direction := 0, action := 0, rearm := 1, hysteresis := 500000 }

/-- The worked definition as sent, with this travel max. -/
def rawDefinition (travelMax : Word32) : RawDefinition :=
  { capacity := 250000, vmax := 8333, travelMin := BitVec.ofInt 32 (-5000), travelMax := travelMax, nmPerCount := 125,
    compliance := 1500, count := 3,
    points := [{ raw := 0, force := 0 }, { raw := 4000000, force := 500000000 },
               { raw := 8000000, force := 1000400000 }] }

/-- A stage record as sent: STRAIN at 2,500 counts/s until the force reaches 300,000 kPa. -/
def rawStage : RawStage := { channel := 2, kind1 := 2, kind2 := 0, rate := 2500, value1 := 300000, value2 := 0 }

/-- A program record as sent, with this stage count and these stages; defaults are asked for. -/
def rawProgram (count : Byte) (stages : List RawStage) : RawProgram :=
  { stageCount := count, extRequired := 0, extLostAction := 0, removalStrain := 0, removeAtNecking := 0, removeBefore := 0,
    removalTime := 0xFFFFFFFF, fitLower := 80000, fitUpper := 290000, rpOffset := 0xFFFFFFFF, yieldDrop := 0xFFFFFFFF,
    guardStrain := 0xFFFFFFFF, margin := 0xFFFFFFFF, neckingThreshold := 0xFFFFFFFF, breakPct := 0xFFFFFFFF,
    suddenPct := 0xFFFFFFFF, breakMin := 0xFFFFFFFF, forceLimit := 100000, autoTare := 0, returnEnabled := 1,
    returnSpeed := 10000, holdMode := 0, timersInHold := 0, streamInHold := 0, markerMode := 0, stages := stages }

/-- The receiver in this state, with its assembly at this place. -/
def receiving (x : ReceiverState) (place : Nat) (body : List Byte) : State :=
  { State.reset with ext := { Receiver.initial true with
      state := x, place := place, body := body, timer := some 2, seqRef := some 14 } }

/-! ### Well-formedness: an ill-formed command per check is refused -/

theorem test_wf_defineFrame_body_too_long :
    Instr.wf (.defineFrame 0 { rawDefinition 900000 with points := List.replicate 27 { raw := 0, force := 0 } }) = false := by
  decide
theorem test_wf_loadProgram_body_too_long :
    Instr.wf (.loadProgram 0 0 (rawProgram 13 (List.replicate 13 rawStage))) = false := by decide
theorem test_wf_ids_have_sixteen_places :
    let short : RawId := { length := 1, places := List.replicate 15 0x41 }
    Instr.wf (.addSpecimen 0 { rawSpecimen with id := short }) = false ∧ Instr.wf (.dropSpecimen 0 short) = false ∧
      Instr.wf (.readResult 0 (some short)) = false ∧ Instr.wf (.deleteResult 0 short) = false := by decide
theorem test_wf_unknownKind_names_no_request :
    Instr.wf (.unknownKind 0x04 0 []) = false ∧ Instr.wf (.unknownKind 0x0F 0 (List.replicate 241 0)) = false := by
  decide +kernel
theorem test_wf_requests_agree_with_their_counts :
    Request.wf (.defineFrame (some { rawDefinition 900000 with count := 2 })) = false ∧
      Request.wf (.loadProgram 0 (some (rawProgram 2 [rawStage]))) = false ∧
      Request.wf (.dropSpecimen { length := 1, places := [] }) = false := by decide
theorem test_wf_accepts :
    Instr.wf (.defineFrame 0 (rawDefinition 900000)) = true ∧ Instr.wf (.addSpecimen 0 rawSpecimen) = true ∧
      Instr.wf (.loadProgram 0 0 (rawProgram 1 [rawStage])) = true ∧ Instr.wf (.unknownKind 0x0F 0 []) = true := by decide

/-! ### Arithmetic and the frame (spec/00, spec/01) -/

/-- spec/00, Rounding: 82.5 rounds to 83 and −82.5 to −83; a stress of 486,308 kPa. -/
theorem test_rounding_and_stress :
    roundDiv 825 10 = 83 ∧ roundDiv (-825) 10 = -83 ∧ stressOf 55000000 113097 = 486308 := by decide
/-- The worked commit of section 1.2. -/
theorem test_commit_after_power_on : replies (after (.commitFrame 1) State.reset) = [[4, 1]] := by decide
theorem test_commit_refuses_travel_max :
    replies (after (.commitFrame 2) (after (.defineFrame 1 (rawDefinition 4000)) State.reset)) = [[0, 0], [4, 4]] := by decide
theorem test_commit_worked_definition :
    let s := after (.commitFrame 2) (after (.defineFrame 1 (rawDefinition 900000)) State.reset)
    replies s = [[0, 0], [0, 0]] ∧ s.frame.state = .driveOff ∧ s.frame.defn = worked := by decide
theorem test_define_is_locked : replies (after (.defineFrame 1 (rawDefinition 900000)) (frameIn .driveOff)) = [[11, 0]] := by
  decide
/-- R2: 191 µm/s at vmax 8,333 gives code 751, −8,333 gives −32,767. -/
theorem test_dac_codes : dacCode 191 8333 = 751 ∧ dacCode (-8333) 8333 = -32767 := by decide
/-- The worked example of R2: 751 is 0.2292 V, -32,767 is -10.000 V, and the code 0 of power-on is 0 V. -/
theorem test_voltage_of_the_dac_codes :
    let volts (code : Int) := ({ Servo.initial with dac := code } : Servo).voltage
    2291 / 10000 < volts 751 ∧ volts 751 < 2293 / 10000 ∧ volts (-32767) = -10 ∧ Servo.initial.voltage = 0 := by
  norm_num [Servo.voltage, Servo.initial]
theorem test_driveOn_waits_for_ready :
    let s := after (.driveOn 3) (frameIn .driveOff)
    s.frame.state = .enabling ∧ s.frame.driveTimer = some 500 ∧ replies s = [[0, 0]] := by decide
theorem test_driveReadySeen_makes_ready : (after .driveReadySeen (frameIn .enabling)).frame.state = .ready := by decide
theorem test_driveEnableTimerExpiry_faults :
    let s := after .driveEnableTimerExpiry (frameIn .enabling)
    s.frame.state = .faulted ∧ s.frame.causeSet = [.driveTimeout] := by decide
theorem test_driveReadyCeases_detail :
    (after (.driveReadyCeases .faultAsserted) (frameIn .ready)).frame.firstCause =
      some { kind := .driveLost, detail := 2, time := 0 } := by decide
theorem test_clearFault_while_estop :
    replies (after (.clearFault 1) { frameIn .faulted with inputs := { Inputs.rest with estop := true } }) = [[12, 1]] := by
  decide
theorem test_driveOff_ends_a_test_never : replies (after (.driveOff 1) testing) = [[5, 0]] := by decide
theorem test_limit_switch_detail :
    ((after (.cabinetInputAsserted .lowerLimit) State.reset).events.record .limitSwitch).map (·.detail) = some 2 := by decide
theorem test_release_raises_nothing :
    (after (.cabinetInputReleased .estop) { State.reset with inputs := { Inputs.rest with estop := true } }).events =
      State.reset.events := by decide
theorem test_jog_is_clamped :
    let s := after (.jog 1 (BitVec.ofInt 32 (-9000))) (frameIn .ready)
    s.frame.state = .moving ∧ s.frame.move.map (·.rate) = some (-8333) ∧ replies s = [[1, 0, 0x73, 0xDF, 0xFF, 0xFF]] := by
  decide
theorem test_moveTo_beyond_travel : replies (after (.moveTo 1 900001 100) (frameIn .ready)) = [[4, 1]] := by decide
theorem test_stopMove_makes_ready : (after (.stopMove 1) (frameIn .returning)).frame.state = .ready := by decide
theorem test_setPosition_moves_the_offset :
    (after (.setPosition 1 1000) { frameIn .ready with servo := { Servo.initial with
      sp := 5, latest := { Point.initial with p := 400 } } }).servo.sp = 605 := by decide
theorem test_settleTimerExpiry_incomplete :
    let m : Move := { kind := .moveTo, target := some 20000, rate := 2500, reached := true, settle := some 0 }
    let s := after .settleTimerExpiry { frameIn .moving with
      frame := { (frameIn .moving).frame with move := some m }
      servo := { Servo.initial with latest := { Point.initial with p := 19900 } } }
    s.frame.state = .ready ∧ (s.events.record .moveIncomplete).map (·.detail) = some (BitVec.ofInt 32 (-100)) := by decide

/-! ### The servo loop (spec/02) -/

/-- R32: −2,500 from remainder 0 leaves 500, then 0. -/
theorem test_advance_negative : advance 0 0 (-2500) none = (-3, 500) ∧ advance (-3) 500 (-2500) none = (-5, 0) := by decide
/-- Worked case: a move reaching its target, and a return of −2,000 toward 0. -/
theorem test_advance_stops_at_target :
    advance 19998 600 2500 (some 20000) = (20000, 0) ∧ advance 20000 0 2500 (some 20000) = (20000, 0) ∧
      advance 3 0 (-2000) (some 0) = (1, 0) ∧ advance 1 0 (-2000) (some 0) = (0, 0) := by decide
/-- Worked cases of section 2.4: trial demand 191 with I_acc 1,389,368; frozen at vmax 150. -/
theorem test_controlLaw_worked :
    let g : Gains := { kp := 655360, ki := 6554, kf := 1311 }
    controlLaw 12 2500 1310720 8333 g = (191, 1389368) ∧ controlLaw 12 2500 1310720 150 g = (190, 1310720) := by decide
/-- Worked case: changing from FORCE at 142 µm/s to STRAIN presets the integrator to 6,029,312 and gives 162. -/
theorem test_entry_worked :
    let g : Gains := { kp := 655360, ki := 6554, kf := 1311 }
    let v := ({ Servo.initial with uLast := 142 }).enter 9800 2500 g
    v.iAcc = 6029312 ∧ controlLaw 2 2500 v.iAcc 8333 g = (162, 6042420) := by decide
/-- The worked STRAIN update of section 2.4 as a servo update of a test: the derived strain is made 14,990 by k. -/
theorem test_servoUpdate_worked :
    let s := after (.servoUpdate 0 true) { testing with
      servo := { testing.servo with sp := 15000, iAcc := 1310720 }, strain := { testing.strain with k := 14990 } }
    s.servo.sp = 15002 ∧ s.servo.q = 500 ∧ s.servo.iAcc = 1389368 ∧ s.servo.uLast = 191 ∧ s.servo.dac = 751 ∧
      s.points.evaluation.map (·.eps) = [14990] := by decide
/-- R30: the override scales 2,500 to 3,750 under 150, and −1,131 to −373 under 33. -/
theorem test_resolve_override :
    ({ testing with servo := { testing.servo with override := 150 } } : State).resolve.rate = 3750 ∧
      ({ testWith .testing [{ strainStage with rate := -1131 }] with
        servo := { testing.servo with override := 33 } } : State).resolve.rate = -373 := by decide
theorem test_setOverride_clamps :
    let s := after (.setOverride 1 500) held
    s.servo.override = 200 ∧ replies s = [[1, 0, 200, 0]] := by decide

/-! ### The force channel (spec/03) -/

/-- The table under R54. -/
theorem test_linearise_worked :
    linearise worked.points 4400000 = 550040000 ∧ linearise worked.points 2000000 = 250000000 ∧
      linearise worked.points (-100000) = -12500000 ∧ linearise worked.points 8388000 = 1048938800 ∧
      linearise worked.points 8000000 = 1000400000 := by decide
/-- R56: the worked TARE. -/
theorem test_tare_worked :
    let s := after (.tare 1) { frameIn .ready with
      force := { Force.initial with window := [1250010, 1249990, 1250020, 1249980], fLin := 1249980 } }
    s.force.window = [30, 10, 40, 0] ∧ s.force.filtered = 20 ∧ s.force.tare = 1249980 := by decide
theorem test_conversion_linearises :
    (after (.conversion 400000) (frameIn .ready)).force.filtered = 50000000 := by decide
theorem test_conversion_overrange_at_top :
    ((after (.conversion 0x7FFFFF) State.reset).events.record .forceOverrange).map (·.detail) = some 1 := by decide
theorem test_setFilter_empties_the_window :
    let s := after (.setFilter 1 16) { frameIn .ready with force := { Force.initial with window := [3] } }
    s.force.window = [] ∧ s.force.filterLength = 16 := by decide
theorem test_setFilter_refuses_3 : replies (after (.setFilter 1 3) testing) = [[4, 1]] := by decide
theorem test_breakDetectionTestEnd_clears_armed :
    (after .breakDetectionTestEnd { frameIn .ready with force := { Force.initial with armed := true } }).force.armed =
      false := by decide

/-! ### Extensometer and strain (spec/04, spec/05) -/

/-- Section 4.1: the worked frame has a good check, elongation 16,830 and sequence 5. -/
theorem test_frame_worked :
    let body : List Byte := [0xBE, 0x41, 0x00, 0x05, 0xFC]
    checkGood body = true ∧ elongationOf body = 16830 ∧ sequenceOf body = 5 ∧ overtravelOf body = false := by decide
/-- R76: a first byte of 0xB4 gives detail 436; a second byte of 0xB5 gives 693 and SYNC_A. -/
theorem test_slip_details :
    ((after (.extByte 0xB4) (receiving .locked 1 [])).events.record .extSlip).map (·.detail) = some 436 ∧
      ((after (.extByte 0xB5) (receiving .locked 2 [])).events.record .extSlip).map (·.detail) = some 693 ∧
      (after (.extByte 0xB5) (receiving .locked 2 [])).ext.state = .syncA := by decide
/-- Section 4.4: reference 14 and pending drop count 2, then sequence 15 with a good check. -/
theorem test_sample_carries_the_drops :
    let s := after (.extByte 0xF2) { receiving .locked 7 [0xBE, 0x41, 0x00, 0x0F] with
      ext := { (receiving .locked 7 [0xBE, 0x41, 0x00, 0x0F]).ext with pendingDrop := 2 } }
    s.ext.fifo = [{ elongation := 16830, checkBad := false, overtravel := false, gap := true, lost := 2 }] ∧
      s.ext.seqRef = some 15 ∧ s.ext.pendingDrop = 0 := by decide
theorem test_extByteTimerExpiry_loses_lock :
    let s := after .extByteTimerExpiry (receiving .locked 4 [1])
    s.ext.state = .hunt ∧ s.mail = [.receiverLeavesLocked] := by decide
/-- R86, R87 and R90: the worked means and strains. -/
theorem test_strains_worked :
    let good (e : Int) : Sample := { elongation := e, checkBad := false, overtravel := false, gap := false, lost := 0 }
    (Strain.initial.take [good 16830, good 16834, { good 1 with checkBad := true }] true).heldMean = 16832 ∧
      extensometerStrain 16832 1204 50000 = 31256 ∧ crossheadStrain 1500 55000000 1620 200000 = 76850 := by decide
theorem test_zeroExt_takes_the_held_mean :
    let s := after (.zeroExt 1 50000) { frameIn .ready with
      strain := { Strain.initial with state := .fitted, heldMean := 1204, starvation := 0 } }
    s.strain.state = .zeroed ∧ s.strain.zero = some 1204 ∧ replies s = [[0, 0, 0xB4, 0x04, 0, 0]] := by decide
theorem test_lock_and_presence :
    (after .receiverEntersLocked State.reset).strain.state = .fitted ∧
      (after .receiverLeavesLocked { State.reset with strain := { Strain.initial with state := .fitted } }).strain.state =
        .absent ∧
      (after .presenceAsserted State.reset).ext.state = .hunt ∧
      (after .presenceDeasserted (receiving .locked 1 [])).ext.state = .inhibited := by decide
/-- R93 to R97: a removal from its trigger to its end. -/
theorem test_removal_begins_and_ends :
    let following := { testing with strain := { testing.strain with state := .following } }
    let removing := { testing with strain := { testing.strain with state := .removing, timer := some 0, removalTime := 3000 } }
    (after .namedStageNotice following).strain.timer = some 3000 ∧ (after .neckingNotice following).strain.state = .removing ∧
      (after .watchRemovalTrigger testing).strain.state = .derived ∧
      (after .removalTriggerTestPoint (sent following (pointOf 0 20000))).strain.state = .removing ∧
      (after .retractedInputRises removing).strain.state = .derived ∧
      (after .removalTimerExpiry removing).strain.state = .removing ∧
      ((after .removalTimerExpiry removing).events.record .extRemovalTimeout).map (·.detail) = some 3000 := by decide
theorem test_strainSourceTestEnd_without_lock :
    (after .strainSourceTestEnd { frameIn .ready with strain := { Strain.initial with state := .following } }).strain.state =
      .absent := by decide

/-! ### Programs, stages, watches, holds (spec/06, spec/07) -/

/-- R111: the worked conversions with S0 113,097. -/
theorem test_conversions_worked :
    forceOfStress 20000 113097 = 2261940 ∧ forceOfStress 300000 113097 = 33929100 ∧
      (Stage.convert { strainStage with channel := .position, end1 := { kind := .target, value := 50 } } 113097 1000
        8333).end1.value = 1050 := by decide
/-- R112: a stage 2 at 12,000 µm/s and a return speed of 10,000 are clamped at vmax 8,333. -/
theorem test_clamped_rates :
    (programOf [strainStage, strainStage, { strainStage with channel := .position, rate := 12000 }]).clamped 8333 =
      [2, 12] := by decide
theorem test_loadProgram_stores_defaults :
    let s := after (.loadProgram 1 2 (rawProgram 1 [rawStage])) (frameIn .driveOff)
    replies s = [[0, 0]] ∧ (s.seq.slots[2]).map (·.breakPct) = some 40 := by decide
/-- Section 6.1: the rate of stage 2 has check index 58. -/
theorem test_loadProgram_index_58 :
    replies (after (.loadProgram 1 0 (rawProgram 3 [rawStage, rawStage, { rawStage with rate := 1000001 }])) State.reset) =
      [[4, 58]] := by decide
theorem test_stage_ends_on_force :
    let g := { strainStage with end1 := { kind := .forceAbove, value := 33929100 } }
    let s := after .sequencerTestPoint (sent (testWith .testing [g, strainStage]) (pointOf 33929100 0))
    s.seq.stage = some 1 ∧ (s.events.record .stageEntered).map (·.detail) = some 257 := by decide
theorem test_last_stage_ends_the_test :
    let g := { strainStage with end2 := { kind := .strainAbove, value := 5 } }
    let s := after .sequencerTestPoint (sent (testWith .testing [g]) (pointOf 0 5))
    s.frame.state = .returning ∧ s.recs.results.map (·.outcome) = [.completedNoBreak] := by decide
theorem test_stageTimerExpiry_sets_the_mark :
    (after .stageTimerExpiry { testing with seq := { testing.seq with timer := .running 0 } }).seq.timeMark = true := by decide
theorem test_notices_set_their_marks :
    (after .yieldNotice testing).seq.yieldMark = true ∧ (after .fmaxPassedNotice testing).seq.fmaxMark = true := by decide
theorem test_nextStage_in_held_keeps_held :
    let s := after .nextStage { testWith .held [strainStage, strainStage] with mail := [.nextStage 7] }
    s.seq.stage = some 1 ∧ s.frame.state = .held ∧ (s.events.record .stageEntered).map (·.detail) = some 769 := by decide
/-- The worked sequence of a rearming watch: points b, c and e. -/
theorem test_watch_fires_at_b :
    let s := after .watchTestPoint (sent (watching (serrated .armed 51900000 .notify)) (pointOf 52010000 0))
    s.watches[2] = serrated .fired 52010000 .notify ∧ (s.events.record .watchFired).map (·.detail) = some 2 := by
  decide +kernel
theorem test_watch_stays_fired_at_c_and_rearms_at_e :
    ((serrated .fired 52010000 .notify).examined (pointOf 51700000 0)) = serrated .fired 51700000 .notify ∧
      ((serrated .fired 52050000 .notify).examined (pointOf 51480000 0)) = serrated .armed 51480000 .notify := by decide
theorem test_setWatch_stores_the_entry :
    (after (.setWatch 1 2 rawWatch) testing).watches[2] = { serrated .armed 0 .notify with previous := none } := by decide
theorem test_setWatch_busy :
    replies (after (.setWatch 1 2 rawWatch) (watching (serrated .armed 0 .hold))) = [[6, 0]] := by decide
theorem test_holdTest_holds :
    let s := after (.holdTest 1) testing
    s.frame.state = .held ∧ s.hold.count = 1 ∧ replies s = [[0, 0, 1]] := by decide
theorem test_clearHold_and_resume :
    replies (after (.clearHold 1 1) { held with hold := { causes := { HoldCauses.empty with operator := true, watch := true }, count := 1 } }) =
        [[0, 0, 2]] ∧
      replies (after (.resumeTest 1) { held with hold := { causes := { HoldCauses.empty with watch := true }, count := 1 } }) =
        [[12, 2]] ∧ (after (.resumeTest 1) held).frame.state = .testing := by decide

/-! ### Specimens, tests, results (spec/08) -/

/-- Section 8.1: the cross-sections of the table. -/
theorem test_crossSections :
    crossSection .round 12000 0 = 113097 ∧ crossSection .round 10000 0 = 78540 ∧ crossSection .rect 25000 8000 = 200000 := by
  decide
theorem test_addSpecimen_replies_s0 :
    replies (after (.addSpecimen 1 rawSpecimen) State.reset) = [[0, 0, 0xC9, 0xB9, 1, 0, 1]] := by decide
theorem test_addSpecimen_duplicate : replies (after (.addSpecimen 1 rawSpecimen) startable) = [[10, 0]] := by decide
theorem test_dropSpecimen_and_readQueue :
    replies (after (.dropSpecimen 1 idA) startable) = [[0, 0, 0]] ∧
      replies (after (.readQueue 1 8) startable) = [[4, 1]] ∧
      (replies (after (.readQueue 1 0) startable)).map (·.take 6) = [[0, 0, 1, 0, 1, 0x41]] := by decide
theorem test_testStart_starts :
    let s := after (.testStart 1) startable
    s.frame.state = .testing ∧ s.seq.stage = some 0 ∧ s.recs.queue = [] ∧ s.eval.fLo = 9047760 ∧ s.eval.fHi = 32798130 := by
  decide
theorem test_testStart_without_specimen : replies (after (.testStart 1) (frameIn .ready)) = [[8, 0]] := by decide
theorem test_abortTest_makes_a_result :
    let s := after (.abortTest 1) testing
    s.frame.state = .ready ∧ s.recs.results.map (·.outcome) = [.aborted] ∧ s.hold.causes = HoldCauses.empty := by decide
/-- R153: from 4,294,960,000 to 180,704 is 188,000 ms; R154: Rm of 60,050,000 mN is 530,960 kPa. -/
theorem test_result_duration_and_rm :
    let r := ({ testing with clock := 180704 } : State).resultOf
      { specimen := specimen, startTime := 4294960000, pointMade := true } .aborted 0
    r.duration = 188000 ∧ stressOf 60050000 113097 = 530960 := by decide
theorem test_results_empty :
    replies (after (.readResult 1 none) State.reset) = [[8, 0]] ∧
      replies (after (.deleteResult 1 idA) { State.reset with recs := { queue := [], test := none, results := [resultOf [0x41]] } }) =
        [[0, 0, 0]] := by decide
theorem test_reset_keeps_the_definition :
    let s := after (.reset 1) testing
    s.frame.state = .driveOff ∧ s.frame.defn = worked ∧ s.recs.results.map (·.outcome) = [.reset] := by decide

/-! ### Evaluation (spec/09) -/

/-- The sums of the worked fit (section 9.4). -/
def fitSums : Evaluation :=
  { Evaluation.initial with
    phase := .elastic, fLo := 9047760, fHi := 32798130, n := 20, sumE := 175000, sumF := 418025000, sumEE := 1697500000,
    sumEF := 4052562000000 }

theorem test_fit_worked :
    fitSums.den = 3325000000 ∧ fitSums.num = 7896865000000 ∧
      fitSums.line 113097 = { slope := 155647803, intercept := 120026, modulus := 209996 } := by decide
theorem test_fit_closes :
    let s := after .evaluationTestPoint (sent { testing with eval := fitSums } (pointOf 32900000 13800))
    s.eval.fit = .valid ∧ s.eval.modulus = some 209996 ∧ (s.events.record .fitClosed).map (·.detail) = some 20 ∧
      s.events.record .fitInvalid = none := by decide
/-- R170: the offset line at strain 35,200. -/
theorem test_offset_line : offsetLine 155647803 120026 35200 20000 = 36219980 := by decide
/-- R160: 55,000,000 mN over 2 µm adds 110,000,000 nJ. -/
theorem test_energy :
    (({ Evaluation.initial with prevD := 1620 }).addEnergy { pointOf 55000000 0 with d := 1622 }).energy = 110000000 := by
  decide

/-! ### Events and link (spec/10, spec/11) -/

theorem test_occurrence_is_coalesced :
    let s := after (.eventOccurrence .moveIncomplete 5) (after (.eventOccurrence .moveIncomplete 3) State.reset)
    s.events.record .moveIncomplete = some { count := 2, time := 0, detail := 3, cls := .warning } ∧
      s.link.eventQueue = [.moveIncomplete] := by decide
theorem test_frame_fault_ends_the_test :
    let s := after (.eventOccurrence .estop 0) testing
    s.frame.state = .faulted ∧ s.recs.results.map (·.detail) = [26] := by decide
theorem test_reporting_severity_injection :
    replies (after (.setReporting 1 0x80000000) State.reset) = [[4, 1]] ∧
      (after (.setSeverity 1 23 1) State.reset).events.severities.travelLimit = .warning ∧
      ((after (.injectEvent 1 30) State.reset).events.record .overload).map (·.detail) = some 0xFFFFFFFF ∧
      replies (after (.injectEvent 1 31) State.reset) = [[4, 1]] := by decide
theorem test_events_read_and_cleared :
    let s := after (.eventOccurrence .moveIncomplete 3) State.reset
    (replies (after (.readEvents 1) s)).map (·.take 11) = [[0, 1, 0, 0x20, 0, 0, 0, 0xE0, 0xFF, 0x7F, 0x40]] ∧
      replies (after (.clearEvents 1 0x2000) s) = [[0, 0, 0, 0, 0, 0]] := by decide
theorem test_stream_starts_and_makes_records :
    (after (.streamOn 1) (after (.setStream 2 1 1) State.reset)).stream.timer = some 1 ∧
      (after (.streamOff 1) State.reset).stream.on = false ∧
      ((after .streamPeriodExpiry { testing with stream := { Stream.initial with on := true, timer := some 0 } }).link.streamQueue).length =
        1 := by decide
/-- Section 11.6: the lengths of the status groups and of an unfitted frame's descriptor chain. -/
theorem test_status_lengths :
    [0, 1, 2, 3, 4, 5].map (fun g => (replies (after (.getStatus 1 g) State.reset)).map (·.length)) =
      [[74], [48], [48], [124], [29], [2]] := by decide +kernel
theorem test_describe_length : (replies (after (.describe 1) State.reset)).map (·.length) = [68] := by decide
theorem test_unknownKind_is_answered :
    (after (.unknownKind 0x0F 9 []) State.reset).link.replies = [{ kind := 0x8F, tag := 9, body := [2, 0] }] := by decide
/-- The check of the nine characters "123456789" with this generator and start value is 0x29B1 (PRESUMED: a published check
value of the family of 16-bit CRCs, not from spec/). -/
theorem test_crc : crc16 [0x31, 0x32, 0x33, 0x34, 0x35, 0x36, 0x37, 0x38, 0x39] = 0x29B1 := by
  decide +kernel
theorem test_hostByte_starts_an_assembly :
    (after (.hostByte 0xA5) State.reset).link.rx = some [] ∧ (after (.hostByte 0xA4) State.reset).link.rx = none ∧
      (after .rxByteTimerExpiry (after (.hostByte 0xA5) State.reset)).link.rx = none := by decide
theorem test_length_above_240_is_discarded :
    ((after (.hostByte 241) (after (.hostByte 0xA5) State.reset)).events.record .linkRxError).map (·.detail) = some 1 := by
  decide
theorem test_hostReady_starts_the_reply :
    let s := after (.hostReadyChange true) (after (.commitFrame 1) State.reset)
    s.link.tx = some { kind := 0x82, tag := 1, body := [4, 1] } ∧ (after .transmitFrameEnd s).link.tx = none := by decide
theorem test_powerOn_samples_the_inputs :
    let s := after (.powerOn { Inputs.rest with estop := true }) testing
    s.frame.state = .undefined ∧ (s.events.record .estop).isSome = true ∧ s.link.eventQueue = [.estop] := by decide

/-! ### Witnesses: concrete states and operands that meet the hypotheses of the statements, clause by clause -/

theorem witness_StepTakesTheFrontCommand :
    ({ State.reset with pending := [.tare 1] } : State).pending = .tare 1 :: [] ∧ State.reset.pending = [] := by decide
/-- The hypothesis `State.free` of the requests' statements: empty queues, and one reply already waiting. -/
theorem witness_requests_find_a_place :
    State.reset.free ∧ testing.free ∧ (after (.describe 1) State.reset).free ∧
      (after (.describe 1) State.reset).link.replies.length = 1 := by decide +kernel
theorem witness_CommitChecksTheFieldsInOrder :
    firstFailing ({ worked with travelMax := 4999 } : FrameDefinition).checks = some 4 ∧
      firstFailing ({ worked with travelMax := 5000 } : FrameDefinition).checks = none := by decide
theorem witness_DriveOnDriveOffAndClearFault :
    (frameIn .driveOff).frame.state.driveEnable = false ∧ (frameIn .driveOff).free := by decide
theorem witness_DriveLinesAndCabinetInputsAct :
    (frameIn .enabling).frame.state = .enabling ∧ (frameIn .ready).frame.state ≠ .enabling ∧ State.reset.inputs.estop = false ∧ State.reset.inputs.upper = false ∧ State.reset.inputs.lower = false ∧
      ({ Inputs.rest with lower := true } : Inputs).cabinet .lowerLimit = true := by decide
theorem witness_JogAndMoveToStartClampedRamps : (frameIn .ready).free ∧ 0 ≤ (frameIn .ready).frame.defn.vmax := by decide
/-- A move record with its settle timer running. -/
def settling : Move := { kind := .moveTo, target := some 20000, rate := 2500, reached := true, settle := some 0 }
theorem witness_MovesEndAndTimersExpire :
    (({ frameIn .moving with frame := { (frameIn .moving).frame with move := some settling } } : State).frame.move =
        some settling ∧ settling.settle = some 0 ∧ settling.target = some 20000) ∧ State.reset.frame.move = none ∧
      ({ testing with seq := { testing.seq with timer := .running 0 } } : State).seq.timer = .running 0 ∧
      testing.seq.timer = .stopped ∧ ((20050 : Int) - 20000).natAbs ≤ 50 ∧ ¬((20051 : Int) - 20000).natAbs ≤ 50 ∧
      testing.frame.gateActed = false ∧ testing.events.severities.travelLimit = .testFault ∧
      (after (.setSeverity 1 23 1) testing).events.severities.travelLimit = .warning := by decide
theorem witness_LoadProgramReplacesOneSlot : testing.free ∧ testing.seq.running.map (·.slot) = some (0 : Byte).toNat := by
  decide
theorem witness_ProgramsAreCheckedAndStoredAsSent :
    firstFailing (programChecks (rawProgram 1 [rawStage])) = none ∧
      firstFailing (programChecks (rawProgram 12 (List.replicate 12 rawStage))) = none := by decide
theorem witness_SetWatchReplacesAnUnbarredEntry : 
    4 < (5 : Byte).toNat ∧ (4 : Byte).toNat < 5 ∧ testing.free ∧ (4 : Byte).toNat ≤ 4 ∧ (1 : Byte).toNat ≤ 1 := by decide
theorem witness_AddSpecimenJoinsTheQueueWithinItsRanges :
    rawSpecimen.id.wf = true ∧ startable.free ∧ specimenFailure { rawSpecimen with dim1 := 112837 } = none ∧
      specimenFailure { rawSpecimen with dim1 := 150001 } = some 4 ∧
      specimenFailure { rawSpecimen with dim1 := 150000 } = some 7 := by decide
theorem witness_DropSpecimenAndReadQueue :
    (startable.free ∧ idOk idA = true ∧ startable.recs.queue = [] ++ specimen :: [] ∧ specimen.id = idChars idA) ∧
      (∀ y ∈ State.reset.recs.queue, y.id ≠ idChars idA) ∧ idOk { idA with length := 0 } = false ∧
      idOk { idA with length := 17 } = false := by decide
/-- One result, of ID "A". -/
def oneResult : State := { State.reset with recs := { queue := [], test := none, results := [resultOf [0x41]] } }
theorem witness_ResultsAreReadAndDeleted :
    (State.reset.free ∧ State.reset.recs.results = []) ∧ (oneResult.free ∧ oneResult.recs.results = [] ++ resultOf [0x41] :: [] ∧
      (resultOf [0x41]).id = idChars idA ∧ idOk idA = true) ∧
      (∀ x ∈ oneResult.recs.results, x.id ≠ idChars { idA with places := 0x42 :: List.replicate 15 0 }) ∧
      oneResult.recs.results ≠ [] ∧ idOk { idA with length := 0 } = false ∧ (resultOf [0x41]).id.length ≤ 16 := by decide
theorem witness_TestStartIsCheckedInOrder :
    ((frameIn .moving).free ∧ (frameIn .moving).frame.state ≠ .ready) ∧
      ((frameIn .ready).frame.state = .ready ∧ (frameIn .ready).recs.queue = []) ∧
      (startable.free ∧ startable.frame.state = .ready ∧ startable.recs.queue = specimen :: []) ∧
      8 ≤ (List.replicate 8 (resultOf [0x41])).length ∧ startable.recs.results.length < 8 ∧
      State.reset.seq.slots[specimen.slot]? = some none ∧
      startable.seq.slots[specimen.slot]? = some (some (programOf [strainStage])) ∧
      missingGain { Frame.initial with gainsPosition := { kp := 0, ki := 0, kf := 0 } } (programOf [strainStage]) = some 2 ∧
      missingGain Frame.initial (programOf [strainStage, { strainStage with channel := .force }]) = some 3 ∧
      missingGain Frame.initial (programOf [strainStage]) = some 4 ∧
      missingGain startable.frame (programOf [strainStage]) = none ∧
      ({ programOf [strainStage] with extRequired := true } : Program).extRequired = true ∧
      startable.strain.state ≠ .zeroed := by decide +kernel
theorem witness_TestStartHandsTheStartToTheBlocks :
    startable.free ∧ startable.frame.state = .ready ∧ startable.recs.queue = specimen :: [] ∧
      startable.recs.results.length < 8 ∧ startable.seq.slots[specimen.slot]? = some (some (programOf [strainStage])) ∧
      missingGain startable.frame (programOf [strainStage]) = none ∧
      ((programOf [strainStage]).extRequired = true → startable.strain.state = .zeroed) ∧
      .strainSourceTestEnd ∉ startable.mail ∧ .breakDetectionTestEnd ∉ startable.mail ∧
      (programOf (List.replicate 12 strainStage)).stages.length ≤ 12 ∧ startable.strain.state ≠ .following ∧
      startable.strain.state ≠ .derived ∧ (programOf [strainStage]).stages[0]? = some strainStage := by decide +kernel
theorem witness_TestEndSequenceLeavesEveryBlock :
    testing.recs.test = some { specimen := specimen, startTime := 0, pointMade := true } ∧
      testing.program = some (programOf [strainStage]) ∧
      (testing.events.record .testEnded = none ∧ testing.events.record .resultReady = none ∧
        testing.events.enabled.getLsbD 8 = false ∧ (after (.setReporting 1 0x300) testing).events.enabled = 0x300) := by
  decide +kernel
theorem witness_AbortHoldClearAndResume :
    testing.free ∧ testing.frame.state = .testing ∧ held.free ∧ held.frame.state = .held ∧
      (frameIn .ready).frame.state ≠ .testing ∧ (frameIn .ready).frame.state ≠ .held := by decide
/-- A state in which MOVE_INCOMPLETE is pending with the greatest count. -/
def counted : State :=
  State.reset.onEvents fun e => e.put .moveIncomplete (some { count := 255, time := 0, detail := 3, cls := .warning })
theorem witness_OccurrencesAreRecordedAndCoalesced :
    State.reset.events.record .moveIncomplete = none ∧
      counted.events.record .moveIncomplete = some { count := 255, time := 0, detail := 3, cls := .warning } := by
  decide +kernel
theorem witness_OccurrencesTakeTheEffectOfTheirClass :
    EventKind.heldEntered.code.val ≤ 12 ∧ 13 ≤ EventKind.moveIncomplete.code.val ∧ EventKind.fitInvalid.code.val ≤ 19 ∧
      State.reset.events.severities.travelLimit = .testFault ∧ 26 ≤ EventKind.estop.code.val := by decide
theorem witness_ReportingSeverityAndInjection : 30 < (31 : Byte).toNat ∧ State.reset.free := by decide
theorem witness_EventsAreReadAndCleared :
    2147483648 ≤ (0x80000000 : Word32).toNat ∧ (0x7FFFFFFF : Word32).toNat < 2147483648 := by decide
theorem witness_ResetClearsWhatIsNotKept :
    (testing.free ∧ testing.inputs.estop = false ∧ testing.inputs.upper = false ∧ testing.inputs.lower = false) ∧
      testing.inTest = true ∧ testing.recs.test.isSome = true ∧ (frameIn .ready).inTest = false ∧
      testing.strain.state = .derived ∧ (frameIn .ready).strain.state = .absent := by decide
theorem witness_ResetRaisesTheAssertedInputsAgain :
    let s : State := { frameIn .driveOff with inputs := { Inputs.rest with lower := true } }
    let r : State := { testing with inputs := { Inputs.rest with upper := true, lower := true } }
    let o : State := { State.reset with inputs := { Inputs.rest with estop := true } }
    (s.free ∧ s.inTest = false ∧ s.frame.status = .committed ∧ s.inputs.lower = true) ∧
      (r.free ∧ r.inTest = true ∧ r.recs.test.isSome = true ∧ r.inputs.upper = true) ∧
      (o.free ∧ o.frame.status = .opened ∧ o.inTest = false ∧ o.inputs.estop = true) := by decide
/-- A stream record with nothing in it. -/
def emptyRecord : StreamRecord :=
  { time := 0, p := 0, f := 0, eps := 0, stage := none, source := .absent, held := false, fitClosed := false,
    broken := false, overRange := false, frameState := .testing, lostBefore := 0 }
theorem witness_StreamExpiryMakesARecord :
    let on : Stream := { Stream.initial with on := true, timer := some 0 }
    ({ testing with stream := on } : State).stream.timer = some 0 ∧ testing.frame.state = .testing ∧
      testing.link.streamQueue.length < 64 ∧ 64 ≤ (List.replicate 64 emptyRecord).length ∧
      ({ State.reset with stream := on } : State).inTest = false ∧
      ({ State.reset with stream := on } : State).stream.idle = false := by decide +kernel
theorem witness_StatusGroupsCarryTheirItems :
    4 < (5 : Byte).toNat ∧ State.reset.free ∧ testing.free ∧ specimen.id.length ≤ 16 ∧ State.reset.recs.test = none := by
  decide
theorem witness_DescribeAndUnknownKinds :
    State.reset.free ∧ (Instr.unknownKind 0x0F 1 []).wf = true := by decide
/-- Two replies wait, so that a request finds no place. -/
def full : State :=
  { State.reset with link := { Link.initial with
      replies := List.replicate 2 { kind := 0x82, tag := 0, body := [4, 1] } } }
theorem witness_RequestsWaitOverflowAndAreExecutedLater :
    (requestCommand 1 .tare = some (.tare 1) ∧ Request.tare.wf = true ∧ full.inputs.hostReady = false ∧
        full.link.replies.length = 2 ∧ full.link.slots.length < 2) ∧
      (let s : State := { full with link := { full.link with
          slots := List.replicate 2 { kind := 0x0C, tag := 1, body := [] }, rx := some [] } }
       s.inputs.hostReady = false ∧ s.link.replies.length = 2 ∧ 2 ≤ s.link.slots.length ∧ s.link.rx ≠ none ∧
         ({ s with link := { s.link with rx := none } } : State).link.rx = none) ∧
      (let s : State := { full with
          inputs := { Inputs.rest with hostReady := true }
          link := { full.link with slots := [{ kind := Request.tare.code, tag := 1, body := Request.tare.body }]
                                   tx := some { kind := 0x82, tag := 0, body := [4, 1] } } }
       s.inputs.hostReady = true ∧ s.link.tx ≠ none ∧ s.link.replies.length = 2) := by decide
theorem witness_ArbiterChoosesRepliesThenEventsThenStream :
    State.reset.link.slots = [] ∧ State.reset.inputs.hostReady = false ∧
      ({ full with inputs := { Inputs.rest with hostReady := true } } : State).inputs.hostReady = true ∧
      full.link.tx = none ∧ full.link.replies.length = 2 := by decide
theorem witness_ReceiverHuntsAndAssembles :
    State.reset.link.rx = none ∧ (0xA4 : Byte) ≠ 0xA5 ∧ assemblyOf ([] ++ [240]) = .more ∧
      assemblyOf ([] ++ [241]) = .bad 1 ∧ (0xA5 : Byte) ∉ ([] ++ [241] : List Byte) ∧
      (240 < (241 : Byte).toNat ∧ (240 : Byte).toNat ≤ 240 ∧ (List.replicate 243 (0 : Byte)).length < (240 : Byte).toNat + 4) ∧
      ([] : List Byte).length = (0 : Byte).toNat ∧
      (let f := bytesAfterStart 0x0C 1 []
       let s : State := { full with link := { full.link with
         slots := List.replicate 2 { kind := 0x0C, tag := 1, body := [] }, rx := some (f.take 4) } }
       s.link.rx = some (f.take 4) ∧ f = f.take 4 ++ f.drop 4 ∧ (f.drop 4).length = 1 ∧ 0xA5 ∉ f ∧
         assemblyOf f = .good { kind := 0x0C, tag := 1, body := [] } ∧ 2 ≤ s.link.slots.length) := by decide +kernel
theorem witness_BytesOfARequestAreItsArrival :
    requestCommand 1 .tare = some (.tare 1) ∧ Request.tare.wf = true ∧ State.reset.free ∧ State.reset.link.rx = none ∧
      State.reset.link.rxTimer = none ∧ State.reset.transmit = State.reset := by decide +kernel
theorem witness_RequestCodecRoundTrip :
    (Request.loadProgram 0 (some (rawProgram 1 [rawStage]))).wf = true ∧
      (Request.defineFrame (some (rawDefinition 900000))).wf = true := by decide
theorem witness_SequencerTestPointEndsTheStageOrTheTest :
    State.reset.points.sequencer = [] ∧ (sent testing (pointOf 0 5)).points.sequencer = pointOf 0 5 :: [] ∧
      (sent (frameIn .ready) (pointOf 0 5)).inTest = false ∧
      ({ testing with force := { Force.initial with breakFlag := true } } : State).inTest = true ∧
      (testing.frame.state = .testing ∧ testing.force.breakFlag = false ∧ (pointOf 0 5).held = false ∧
        testing.seq.stage = some 0 ∧ testing.stageAt 0 = some strainStage) ∧ held.frame.state = .held ∧
      (let s := testWith .held [strainStage, strainStage]
       s.seq.stage = some 0 ∧ s.program = some (programOf [strainStage, strainStage]) ∧ s.seq.lastEnd ≠ some 7 ∧
         (programOf [strainStage, strainStage]).stages[0 + 1]? = some strainStage ∧
         (programOf [strainStage]).stages.length ≤ 0 + 1) := by decide
theorem witness_NoticesSetMarksAndNextStageEndsTheStage :
    ({ held with mail := [.necking, .nextStage 7] } : State).mail = [.necking] ++ .nextStage 7 :: [] ∧
      (∀ t, .nextStage t ∉ [Notice.necking]) ∧ (∀ t, .nextStage t ∉ held.mail) ∧ held.inTest = true ∧
      State.reset.inTest = false := by
  refine ⟨by decide, fun t => by simp, fun t => ?_, by decide, by decide⟩
  exact List.not_mem_nil
theorem witness_WatchTestPointFiresOnCrossings :
    let s := sent (watching (serrated .armed 51999999 .endTest)) (pointOf 52000000 0)
    s.points.watch = pointOf 52000000 0 :: [] ∧ s.inTest = true ∧
      (s.watches[2].enabled = true ∧ s.watches[2].state = .armed ∧ s.watches[2].previous = some 51999999 ∧
        (51999999 : Int) < s.watches[2].level ∧ s.watches[2].level ≤ (pointOf 52000000 0).f) ∧
      (serrated .fired 52010000 .notify).level - (serrated .fired 52010000 .notify).hysteresis = 51500000 ∧
      firings s.watches (pointOf 52000000 0) = [(2, .endTest)] ∧ firings s.watches (pointOf 51999999 0) = [] ∧
      State.reset.points.watch = [] := by
  decide +kernel
/-- Entries 1 and 3, of REMOVE_EXT and END_TEST, fire at one test point in FOLLOWING. -/
theorem witness_WatchTestPointFiresOnCrossings_removal :
    let s : State := { testing with
      strain := { testing.strain with state := .following }
      watches := ((Vector.replicate 5 Watch.initial).set 1 (serrated .armed 0 .removeExt)).set 3 (serrated .armed 0 .endTest) }
    firings s.watches (pointOf 52000000 0) = [(1, .removeExt), (3, .endTest)] ∧ s.inTest = true ∧
      s.program = some (programOf [strainStage]) ∧ s.strain.state = .following := by decide +kernel
theorem witness_EvaluationSumsEnergyMaximumAndFit :
    let s := sent { testing with eval := fitSums } (pointOf 32798131 13800)
    s.points.evaluation = pointOf 32798131 13800 :: [] ∧ s.program = some (programOf [strainStage]) ∧
      fits 32 (pointOf 32798131 13800).f = true ∧ fits 32 (pointOf 32798131 13800).eps = true ∧
      fits 32 (pointOf 32798131 13800).d = true ∧ fits 32 s.eval.prevD = true ∧ s.inTest = true ∧ s.force.capture = none ∧
      s.eval.phase = .elastic ∧ s.eval.fit = .opened ∧ s.eval.tracking = none ∧ s.eval.fHi < (pointOf 32798131 13800).f ∧
      s.eval.fLo ≤ (pointOf 9047760 4000).f ∧ (pointOf 32798130 4000).f ≤ s.eval.fHi ∧
      (pointOf 9047759 4000).f < s.eval.fLo ∧ ({ pointOf 32798131 13800 with held := true } : Point).held = true ∧
      State.reset.points.evaluation = [] := by decide
/-- The worked fit, closed. -/
def fitted : Evaluation :=
  { fitSums with fit := .valid, slope := some 155647803, intercept := some 120026, fmax := some 38460000 }
/-- A point at the drop of δ below a candidate peak of 38,460,000 mN (R167). -/
theorem witness_EvaluationFindsYieldAndNecking :
    (let s := sent { testing with eval := { fitted with tracking := some { peak := 38460000, eps := 16000 } } }
        (pointOf 38267700 16500)
     s.points.evaluation = pointOf 38267700 16500 :: [] ∧ s.program = some (programOf [strainStage]) ∧ s.inTest = true ∧
        s.force.capture = none ∧ s.eval.fit = .valid ∧ s.eval.phase = .elastic ∧
        form64 ((38267700 : Int) * 1000) ≤ form64 (38460000 * (1000 - 5)) ∧
        form64 ((38460000 : Int) * (1000 - 5)) < form64 (38267701 * 1000)) ∧
      (fitted.tracking = none ∧ fitted.rp = none ∧ fitted.slope = some 155647803 ∧ fitted.intercept = some 120026 ∧
        fitSums.fit = .opened ∧ fitSums.tracking = none ∧ fitSums.fHi < 32798131 ∧ (32798130 : Int) ≤ fitSums.fHi ∧
        fits 32 (38460001 : Int) = true ∧ (38460000 : Int) < 38460001) ∧
      (36150000 : Int) ≤ roundDiv (form64 (155647803 * (35200 - 20000))) 65536 + 120026 ∧
      (let e : Evaluation := { fitted with phase := .discontinuous, guardEnd := some 21000, reL := some 35950000,
                                           epsReH := some 16000, reH := some 38460000, fmax := some 38460000 }
       e.phase = .discontinuous ∧ e.guardEnd = some 21000 ∧ e.reL = some 35950000 ∧ e.epsReH = some 16000 ∧
          form64 ((35950000 : Int) * (1000 + 10)) ≤ form64 (36309500 * 1000) ∧
          ¬form64 ((35950000 : Int) * (1000 + 10)) ≤ form64 (36309499 * 1000) ∧ ({ e with reL := none }).reL = none ∧
          (38459999 : Int) < 38460000 ∧ (pointOf 35949999 20999).eps < 21000 ∧ 21000 ≤ (pointOf 35949999 21000).eps ∧
          e.fmax = some 38460000) ∧
      form64 ((37690800 : Int) * 1000) ≤ form64 (38460000 * (1000 - 20)) ∧
      form64 ((38460000 : Int) * (1000 - 20)) < form64 (37690801 * 1000) := by decide +kernel
/-- A test in FOLLOWING. -/
def following : State := { testing with strain := { testing.strain with state := .following } }
theorem witness_RemovalRunsFromItsTriggerToItsEnd :
    following.program = some (programOf [strainStage]) ∧ (sent following (pointOf 0 20000)).points.removal = [pointOf 0 20000] ∧
      ((programOf [strainStage]).removalStrain = some 20000 ∧ 20000 ≤ (pointOf 0 20000).eps ∧ (pointOf 0 19999).eps < 20000) ∧
      .strainSourceTestEnd ∉ following.mail ∧
      (let x : Strain := { testing.strain with state := .removing, timer := some 0 }
       x.state = .removing ∧ x.timer = some 0) := by decide
theorem witness_TestEndsLocksAndPresenceArrive :
    State.reset.inTest = false ∧ .receiverEntersLocked ∉ State.reset.mail ∧ .receiverLeavesLocked ∉ State.reset.mail ∧
      State.reset.strain.state = .absent ∧ following.strain.state = .following ∧ following.inTest = true ∧
      following.events.severities.extLost = .warning := by decide
/-- The receiver at its last byte with four records waiting. -/
def overrun : State :=
  let s := receiving .locked 7 [0xBE, 0x41, 0x00, 0x0F]
  let x : Sample := { elongation := 1, checkBad := false, overtravel := false, gap := false, lost := 0 }
  { s with ext := { s.ext with fifo := [x, x, x, x] } }
/-- R81: the sample that finds four records waiting is dropped. -/
theorem test_full_fifo_drops_the_sample :
    let s := after (.extByte 0xF2) overrun
    s.ext.fifo = overrun.ext.fifo ∧ s.ext.pendingDrop = 1 ∧ s.ext.latest.map (·.elongation) = some 16830 := by decide
theorem witness_ReceiverStatesTakeBytes :
    (receiving .first 6 [1, 2, 3]).ext.place < 7 ∧ (receiving .first 7 [1, 2, 3, 4]).ext.place = 7 ∧
      checkGood ([0xBE, 0x41, 0x00, 0x05] ++ [0xFC]) = true ∧ checkGood ([0xBE, 0x41, 0x00, 0x05] ++ [0xFD]) = false ∧
      (receiving .locked 7 []).ext.fifo.length < 4 ∧ overrun.ext.fifo.length = 4 ∧ 3 ≤ (receiving .confirm 3 []).ext.place ∧
      (receiving .locked 1 []).ext.place = 1 := by decide
/-- R54: at a calibration point and beyond both ends of the table. -/
theorem witness_ConversionFiltersAndDetectsTheBreak_segments :
    worked.points.Pairwise (fun x y => x.raw < y.raw) ∧ worked.points[0]? = some { raw := 0, force := 0 } ∧
      worked.points[0 + 1]? = some { raw := 4000000, force := 500000000 } ∧ 1 + 2 = worked.points.length ∧
      linearise worked.points (-8) = -1000 ∧ linearise worked.points 4000000 = 500000000 ∧
      linearise worked.points 8000000 = 1000400000 := by decide
theorem witness_ConversionFiltersAndDetectsTheBreak :
    ((frameIn .ready).inTest = false ∧ (0x7FFFFF : BitVec 24).toInt = 8388607 ∧ (0x800000 : BitVec 24).toInt = -8388608 ∧
        ¬((400000 : BitVec 24).toInt = -8388608 ∨ (400000 : BitVec 24).toInt = 8388607)) ∧
      ((frameIn .ready).frame.status = .committed ∧ worked.capacity * 1100 < ((275000001 : Int).natAbs : Int) ∧
        ¬worked.capacity * 1100 < ((275000000 : Int).natAbs : Int)) ∧
      (let s : State := { testing with force := { Force.initial with peak := 50000000, filtered := 50000000 } }
       s.inTest = true ∧ s.program = some (programOf [strainStage]) ∧ s.force.capture = none ∧
          s.recs.test = some { specimen := specimen, startTime := 0, pointMade := true } ∧
          (programOf [strainStage]).forceLimit * 1000 ≤ (100000000 : Int) ∧
          (99999999 : Int) < (programOf [strainStage]).forceLimit * 1000 ∧
          (19999999 : Int) * 100 < 50000000 * 40 ∧ ¬(20000000 : Int) * 100 < 50000000 * 40) := by decide
/-- R52 and R60: an over-range conversion ends a test; a filtered force beyond 110 % of capacity faults the frame. -/
theorem test_conversion_ends_and_faults :
    (after (.conversion 0x800000) testing).recs.results.map (·.detail) = [24] ∧
      (after (.conversion 2400000) (frameIn .ready)).frame.causeSet = [.overload] := by decide
/-- R81, R86: the FIFO of an update in FOLLOWING. -/
def fed (starvation : Nat) (samples : List Sample) : State :=
  { following with
    strain := { following.strain with starvation := starvation, zero := some 1204, gauge := some 50000, heldMean := 16832 }
    ext := { following.ext with fifo := samples }
    servo := { following.servo with latest := pointOf 0 31256 } }
/-- R100: the twentieth update without a good sample is a loss, with the strain of the update before; R82: EXT_GAP. -/
theorem test_starvation_and_gap :
    let s := after (.servoUpdate 0 true) (fed 19 [])
    let x : Sample := { elongation := 1204, checkBad := false, overtravel := false, gap := true, lost := 3 }
    (s.strain.state = .derived ∧ s.points.evaluation.map (·.eps) = [31256] ∧
      (s.events.record .extLost).map (·.detail) = some 2) ∧
      ((after (.servoUpdate 0 true) (fed 0 [x])).events.record .extGap).map (·.detail) = some 3 := by decide
/-- A return record not yet signed, its target above the position 0. -/
def returning : State :=
  { frameIn .returning with
    frame := { (frameIn .returning).frame with
      move := some { kind := .returning, target := some 1000, rate := 2000, reached := false, settle := none } }
    servo := { Servo.initial with channel := .strain, entry := true, uLast := 191, sp := 15002, q := 500 } }
/-- R42 and R23: the entry at the end of a test holds the position and presets the integrator, and signs the return. -/
theorem test_return_entry :
    let s := after (.servoUpdate 0 true) { returning with
      frame := { returning.frame with move := returning.frame.move.map fun m => { m with target := some (-1000) } } }
    s.servo.sp = 0 ∧ s.servo.iAcc = 191 * 65536 ∧ s.servo.uLast = 191 ∧ s.frame.move.map (·.rate) = some (-2000) := by decide
/-- R48: GET_STATUS reports the override of the latest update, and after the next update the new one. -/
theorem test_status_reports_the_latest_update :
    let s := after (.setOverride 1 150) testing
    s.servo.override = 150 ∧ s.servo.reported.override = 100 ∧
      (after (.servoUpdate 0 true) s).servo.reported.override = 150 := by decide
/-- R169: a point that lowers the tracker to a force of 0 or less does not end the plateau. -/
theorem test_lowering_point_does_not_end_the_plateau :
    let e : Evaluation := { Evaluation.initial with
      phase := .discontinuous, plateau := .running, guardEnd := some 21000, reL := some 5, epsReH := some 16000, reH := some 9 }
    let s := e.plateauAt 10 (pointOf (-1) 22000)
    s.reL = some (-1) ∧ s.plateau = .running ∧ s.ae = none := by decide
/-- A test of these stages whose watch entries 1 and 3, of NEXT_STAGE and HOLD, both fire at the point sent. -/
def crossing (stages : List Stage) : State :=
  sent { testWith .testing stages with
    watches := ((Vector.replicate 5 Watch.initial).set 1 (serrated .armed 0 .nextStage)).set 3 (serrated .armed 0 .hold) }
    (pointOf 52000000 0)
/-- R132: the NEXT_STAGE of entry 1 acts before the HOLD of entry 3: it ends a test in its last stage, which is then not held. -/
theorem test_watches_act_in_index_order :
    let s := after .watchTestPoint (crossing [strainStage])
    s.recs.results.map (fun r => (r.outcome, r.holdCount)) = [(.completedNoBreak, 0)] ∧
      s.events.record .heldEntered = none ∧ (s.events.record .watchFired).map (·.count) = some 2 := by
  decide +kernel
/-- R131 and R132: in an earlier stage the next stage is entered, and then held. -/
theorem test_stage_is_entered_before_the_hold :
    let s := after .watchTestPoint (crossing [strainStage, strainStage])
    s.seq.stage = some 1 ∧ s.frame.state = .held ∧ s.hold.count = 1 ∧ s.mail = [] := by
  decide +kernel
/-- R148: a test point gives its test time, and an idle point leaves it. -/
theorem test_idle_point_keeps_the_test_time :
    (after (.servoUpdate 0 true) testing).servo.testTime = 1 ∧
      (let s := after (.servoUpdate 0 true) { frameIn .ready with servo := { Servo.initial with testTime := 5 } }
       s.servo.testTime = 5 ∧ s.servo.latest.testTime = 0) := by decide
/-- Section 11.6: the severity of TRAVEL_LIMIT, TEST_FAULT at power-on, in the highest two bits (the end of the byte is log 44). -/
theorem test_severities_byte : State.reset.events.severities.byte = 0x40 := by decide
theorem witness_UpdatesTakeTheSamplesAndGiveTheStrain :
    ((frameIn .ready).settleStrain.drain.inTest = false) ∧
      (let b := (fed 18 []).settleStrain.drain
       b.inTest = true ∧ b.strain.state = .following ∧ b.strain.starvation = 19) ∧
      (let b := (fed 19 []).settleStrain.drain
       20 ≤ b.strain.starvation ∧ b.strain.pendingSwitch = none ∧ .strainSourceTestEnd ∉ b.mail ∧
         b.events.severities.extLost = .warning ∧
         ({ fed 19 [] with events := (after (.setSeverity 1 21 2) testing).events } : State).settleStrain.drain.events.severities.extLost =
           .testFault) ∧
      (let b := testing.settleStrain.drain
       b.inTest = true ∧ b.strain.state = .derived ∧ b.strain.pendingSwitch = none) := by decide +kernel
theorem witness_UpdatesControlTheirChannel :
    (frameIn .enabling).frame.state = .enabling ∧ (frameIn .ready).frame.state = .ready ∧
      returning.frame.move.map (·.rate) = some 2000 ∧
      (testing.seq.stage = some 0 ∧ testing.stageAt 0 = some strainStage ∧
        Int.tdiv (form64 (strainStage.rate * testing.servo.override)) 100 = 2500) ∧
      held.program.map (·.holdMode) = some .holdPosition := by decide
theorem witness_TrackingUpdateFollowsThePosition :
    (frameIn .driveOff).frame.state = .driveOff ∧ (frameIn .driveOff).ext.fifo = [] ∧
      .strainSourceTestEnd ∉ (frameIn .driveOff).mail := by decide
theorem witness_TestingUpdateMakesATestPoint :
    (testing.frame.state = .testing ∧ testing.ext.fifo = [] ∧ .strainSourceTestEnd ∉ testing.mail ∧
      testing.recs.test = some { specimen := specimen, startTime := 0, pointMade := true } ∧ testing.seq.stage = some 0 ∧
      testing.stageAt 0 = some strainStage ∧ testing.servo.entry = false ∧ testing.servo.channel = strainStage.channel ∧
      testing.strain.state = .derived) ∧ ¬(worked.travelMax ≤ 0 ∧ (0 : Int) < 191) ∧
      ¬((0 : Int) ≤ worked.travelMin ∧ (191 : Int) < 0) := by decide
theorem witness_DemandStaysWithinTheDefinition :
    testing.frame.status = .committed ∧ 1 ≤ testing.frame.defn.vmax ∧ 0 ≤ testing.servo.q ∧ testing.servo.q < 1000 ∧
      (∃ t, exec (.servoUpdate 0 true) testing = .next t) := by
  refine ⟨by decide, by decide, by decide, by decide, _, rfl⟩
/-- The invariants hold in a state in which a test runs and a step is taken. -/
theorem witness_steps_keep_the_invariants :
    State.reset.WithinCapacity ∧ testing.HoldInOrder ∧ testing.RecordsInOrder ∧ State.reset.EventsInOrder ∧
      testing.eval.InOrder ∧ (∃ t, step { testing with pending := [.abortTest 1] } = .next t) := by
  refine ⟨⟨by decide, by decide, by decide, by decide, by decide⟩, ⟨⟨by decide, by decide⟩, by decide⟩,
    ⟨⟨by decide, by decide⟩, by decide, by decide, by decide, by decide⟩,
    ⟨by decide, by decide, ?_⟩, ⟨by decide, ?_, ?_⟩, _, rfl⟩
  · intro k r h
    exact absurd h (by cases k <;> exact nofun)
  · exact nofun
  · exact nofun
theorem witness_CommittedDefinitionStays :
    (frameIn .driveOff).frame.status = .committed ∧
      ({ frameIn .driveOff with pending := [.tare 1] } : State).pending.head? = some (.tare 1) := by decide

end Sys2Proof.Tests
end

section
/-! STOP_MOVE and SET_POSITION (spec/01, R7 and R22): what each does in every frame state. -/

namespace Sys2Proof.Machine

/-! ### The requests at their block -/

/-- STOP_MOVE that finds a place is its block's effect and the reply to it. -/
theorem exec_stopMove {s : State} (tag : Byte) (hs : s.free) :
    exec (.stopMove tag) s = .next ((handleStopMove s).2.replying 0x89 tag (handleStopMove s).1.status
      (handleStopMove s).1.detail (handleStopMove s).1.data) :=
  request_perform s .stopMove hs nofun

/-- SET_POSITION that finds a place is its block's effect and the reply to it. -/
theorem exec_setPosition {s : State} (tag : Byte) (value : Word32) (hs : s.free) :
    exec (.setPosition tag value) s = .next ((handleSetPosition value s).2.replying 0x8A tag
      (handleSetPosition value s).1.status (handleSetPosition value s).1.detail (handleSetPosition value s).1.data) :=
  request_perform s (.setPosition value) hs nofun

/-! ### What the frame supervisor does -/

/-- R22: the move record ends, and the setpoint is the latest position with remainder 0; the integrator is kept. -/
theorem stopCrosshead_eq (s : State) :
    s.stopCrosshead = { s with
      frame := { s.frame with state := .ready, move := none }
      servo := { s.servo with sp := s.servo.latest.p, q := 0 } } := by
  rfl

/-- R22: a move or a return is stopped, READY has nothing to stop, and the other states refuse. -/
theorem handleStopMove_eq (s : State) :
    handleStopMove s =
      if s.frame.state = .moving ∨ s.frame.state = .returning then (.ok [], s.stopCrosshead)
      else if s.frame.state = .ready then (.ok [], s)
      else (.refuse .wrongState 0, s) := by
  unfold handleStopMove
  cases s.frame.state with
  | moving | returning => simp
  | ready => simp
  | undefined | driveOff | enabling | testing | held | faulted => simp

/-- R7: the offset takes up the change of position in DRIVE_OFF and READY, the setpoint with it in READY alone. -/
theorem handleSetPosition_eq (value : Word32) (s : State) :
    handleSetPosition value s =
      let change := value.toInt - s.servo.latest.p
      let moved : State := { s with frame := { s.frame with offset := s.frame.offset + change } }
      if s.frame.state = .driveOff then (.ok [], moved)
      else if s.frame.state = .ready then
        (.ok [], { moved with servo := { s.servo with sp := s.servo.sp + change } })
      else (.refuse .wrongState 0, s) := by
  unfold handleSetPosition
  cases s.frame.state with
  | driveOff => simp [State.onFrame]
  | ready => simp [State.onFrame, State.onServo]
  | undefined | enabling | moving | testing | held | returning | faulted => simp

/-! ### The statement -/

/-- Settles O10: in each branch of R22 and of R7 the reply goes out from the state that the supervisor leaves. -/
theorem stopMoveAndSetPosition : Obligations.StopMoveAndSetPosition := by
  constructor
  · intro s tag hs
    rw [exec_stopMove tag hs, handleStopMove_eq, stopCrosshead_eq]
    split_ifs <;> rfl
  · intro s tag value hs
    rw [exec_setPosition tag value hs, handleSetPosition_eq]
    split_ifs <;> rfl

end Sys2Proof.Machine
end

section
/-! SET_WATCH (spec/07, R126): the codes of an entry's fields, the checks in their order, the entry stored. -/

namespace Sys2Proof.Machine

/-! ### The codes of a watch entry (section 11.6) -/

/-- A code that lies in a table of values without repetition is the code of the value it names. -/
theorem codeIn_getElem?_getD {α : Type} [DecidableEq α] {table : List α} (hn : table.Nodup) (d : α) {b : Byte}
    (hb : b.toNat < table.length) : codeIn table (table[b.toNat]?.getD d) = b := by
  rw [codeIn, List.getElem?_eq_getElem hb, Option.getD_some, hn.idxOf_getElem, BitVec.ofNat_toNat, BitVec.setWidth_eq]

theorem yesNoOfCode_eq_getElem? (n : Nat) : yesNoOfCode n = [false, true][n]? :=
  match n with
  | 0 | 1 | _ + 2 => rfl

theorem WatchQuantity.ofCode_eq_getElem? (n : Nat) :
    WatchQuantity.ofCode n = [WatchQuantity.force, .strain, .displacement, .position, .testTime][n]? :=
  match n with
  | 0 | 1 | 2 | 3 | 4 | _ + 5 => rfl

theorem WatchDirection.ofCode_eq_getElem? (n : Nat) :
    WatchDirection.ofCode n = [WatchDirection.rising, .falling][n]? :=
  match n with
  | 0 | 1 | _ + 2 => rfl

theorem WatchAction.ofCode_eq_getElem? (n : Nat) :
    WatchAction.ofCode n = [WatchAction.notify, .hold, .nextStage, .endTest, .removeExt][n]? :=
  match n with
  | 0 | 1 | 2 | 3 | 4 | _ + 5 => rfl

theorem WatchRearm.ofCode_eq_getElem? (n : Nat) : WatchRearm.ofCode n = [WatchRearm.once, .rearm][n]? :=
  match n with
  | 0 | 1 | _ + 2 => rfl

/-- A byte names REARM exactly where it is 1. -/
theorem WatchRearm.ofCode_eq_some_rearm (b : Byte) : WatchRearm.ofCode b.toNat = some .rearm ↔ b = 1 := by
  rw [← BitVec.toNat_inj, show (1 : Byte).toNat = 1 from rfl]
  match b.toNat with
  | 0 | 1 | _ + 2 => simp [WatchRearm.ofCode]

/-- A byte is stored as REARM exactly where it names REARM: the stored default is ONCE. -/
theorem WatchRearm.getD_once_eq_rearm (b : Byte) : (WatchRearm.ofCode b.toNat).getD .once = .rearm ↔ b = 1 := by
  rw [← ofCode_eq_some_rearm, Option.getD_eq_iff]
  simp

/-! ### The checks of SET_WATCH -/

/-- A check that fails exactly under `P` names its index there, and leaves the naming to the later checks elsewhere. -/
theorem firstFailing_cons_of_iff {passed : Bool} {P : Prop} [Decidable P] (h : passed = true ↔ ¬P) (i : Nat)
    (rest : List (Nat × Bool)) :
    firstFailing ((i, passed) :: rest) = if P then some i else firstFailing rest := by
  by_cases hp : P <;> simp [firstFailing, h, hp]

/-- A table without a value at a code is a table that ends before it. -/
theorem isSome_getElem?_iff_not_lt {α : Type} (x : α) (rest : List α) (n : Nat) :
    ((x :: rest)[n]?.isSome = true) ↔ ¬rest.length < n := by
  rw [isSome_getElem?, List.length_cons, Nat.lt_succ_iff, not_lt]

/-- The hysteresis is checked with REARM alone. -/
theorem hysteresisCheck_iff (w : RawWatch) :
    (decide (WatchRearm.ofCode w.rearm.toNat ≠ some .rearm) || within 1 2147483647 w.hysteresis.toNat) = true ↔
      ¬(w.rearm = 1 ∧ (w.hysteresis = 0 ∨ 2147483647 < w.hysteresis.toNat)) := by
  have h0 : w.hysteresis = 0 ↔ w.hysteresis.toNat = 0 := by rw [← BitVec.toNat_inj]; rfl
  have hw : within 1 2147483647 w.hysteresis.toNat = true ↔
      1 ≤ w.hysteresis.toNat ∧ w.hysteresis.toNat ≤ 2147483647 := by
    simp only [within, decide_eq_true_iff]
    omega
  rw [Bool.or_eq_true, decide_eq_true_iff, Ne, WatchRearm.ofCode_eq_some_rearm, hw, h0]
  by_cases hr : w.rearm = 1
  · simp only [hr, not_true, false_or, true_and]
    omega
  · simp only [hr, not_false_iff, true_or, false_and]

/-- R126: the number of the first field that fails. -/
theorem firstFailing_watchChecks (w : RawWatch) :
    firstFailing (watchChecks w) =
      if 1 < w.enabled.toNat then some 1
      else if 4 < w.quantity.toNat then some 2
      else if 1 < w.direction.toNat then some 4
      else if 4 < w.action.toNat then some 5
      else if 1 < w.rearm.toNat then some 6
      else if w.rearm = 1 ∧ (w.hysteresis = 0 ∨ 2147483647 < w.hysteresis.toNat) then some 7
      else none := by
  rw [watchChecks, yesNoOfCode_eq_getElem?, WatchQuantity.ofCode_eq_getElem?, WatchDirection.ofCode_eq_getElem?,
    WatchAction.ofCode_eq_getElem?, firstFailing_cons_of_iff (isSome_getElem?_iff_not_lt ..),
    firstFailing_cons_of_iff (isSome_getElem?_iff_not_lt ..), firstFailing_cons_of_iff (isSome_getElem?_iff_not_lt ..),
    firstFailing_cons_of_iff (isSome_getElem?_iff_not_lt ..),
    firstFailing_cons_of_iff (WatchRearm.ofCode_eq_getElem? _ ▸ isSome_getElem?_iff_not_lt ..),
    firstFailing_cons_of_iff (hysteresisCheck_iff w)]
  rfl

/-- R126: the entries that a request may not change during a test. -/
theorem barred_iff (w : Watch) : w.barred = true ↔ w.enabled = true ∧ w.state = .armed ∧ w.action ≠ .notify := by
  simp only [Watch.barred, Bool.and_eq_true, decide_eq_true_iff, and_assoc]

/-! ### The request -/

/-- SET_WATCH that finds a place is its block's effect and the reply to it. -/
theorem exec_setWatch {s : State} (tag index : Byte) (w : RawWatch) (hs : s.free) :
    exec (.setWatch tag index w) s = .next ((handleSetWatch index w s).2.replying 0x99 tag
      (handleSetWatch index w s).1.status (handleSetWatch index w s).1.detail (handleSetWatch index w s).1.data) :=
  request_perform s (.setWatch index w) hs nofun

/-- R126: what the watch unit answers to a request for one of its five entries, check by check. -/
theorem handleSetWatch_of_lt (s : State) {index : Byte} (w : RawWatch) (h : index.toNat < 5) :
    handleSetWatch index w s =
      if s.inTest = true ∧ s.watches[index.toNat].barred = true then (.refuse .busy 0, s)
      else match firstFailing (watchChecks w) with
        | some field => (.refuse .badValue field, s)
        | none => (.ok [], { s with watches := s.watches.set index.toNat (storedWatch w) }) := by
  simp only [handleSetWatch, dif_pos h, Bool.and_eq_true]
  rfl

/-- R126: an index above 4 names no entry. -/
theorem handleSetWatch_of_not_lt (s : State) {index : Byte} (w : RawWatch) (h : ¬index.toNat < 5) :
    handleSetWatch index w s = (.refuse .badValue 0, s) := dif_neg h

/-- Settles O15: the request goes through the checks of R126 in their order, and the stored fields are read off their
tables of codes. -/
theorem setWatchReplacesAnUnbarredEntry : Obligations.SetWatchReplacesAnUnbarredEntry := by
  refine ⟨fun s tag index w hs hi => ?_, fun s tag index w h hs => ?_, fun w => ?_⟩
  · rw [exec_setWatch tag index w hs, handleSetWatch_of_not_lt s w (by omega)]
    rfl
  · have hbusy : s.inTest = true ∧ s.watches[index.toNat].barred = true ↔
        (s.frame.state = .testing ∨ s.frame.state = .held) ∧ s.watches[index.toNat].enabled = true ∧
          s.watches[index.toNat].state = .armed ∧ s.watches[index.toNat].action ≠ .notify := by
      rw [inTest_iff, barred_iff]
    simp only [exec_setWatch tag index w hs, handleSetWatch_of_lt s w h, firstFailing_watchChecks, hbusy]
    split_ifs <;> rfl
  · refine ⟨rfl, rfl, rfl, rfl, ?_, fun hq => ?_, fun hd => ?_, fun ha => ?_, fun hr => ?_⟩
    · simp only [storedWatch, WatchRearm.getD_once_eq_rearm]
    · rw [storedWatch, WatchQuantity.ofCode_eq_getElem?]
      exact codeIn_getElem?_getD (by decide) _ (Nat.lt_succ_of_le hq)
    · rw [storedWatch, WatchDirection.ofCode_eq_getElem?]
      exact codeIn_getElem?_getD (by decide) _ (Nat.lt_succ_of_le hd)
    · rw [storedWatch, WatchAction.ofCode_eq_getElem?]
      exact codeIn_getElem?_getD (by decide) _ (Nat.lt_succ_of_le ha)
    · rw [storedWatch, WatchRearm.ofCode_eq_getElem?]
      exact codeIn_getElem?_getD (by decide) _ (Nat.lt_succ_of_le hr)

end Sys2Proof.Machine
end

section
/-! SET_STREAM, STREAM_ON and STREAM_OFF (spec/11, R196 and R197): what each sets in STOPPED and in STREAMING. -/

namespace Sys2Proof.Machine

/-! ### The requests at their block -/

/-- SET_STREAM that finds a place is its block's effect and the reply to it. -/
theorem exec_setStream {s : State} (tag : Byte) (period : BitVec 16) (idle : Byte) (hs : s.free) :
    exec (.setStream tag period idle) s = .next ((handleSetStream period idle s).2.replying 0xA8 tag
      (handleSetStream period idle s).1.status (handleSetStream period idle s).1.detail
      (handleSetStream period idle s).1.data) :=
  request_perform s (.setStream period idle) hs nofun

/-- STREAM_ON that finds a place is its block's effect, answered OK. -/
theorem exec_streamOn {s : State} (tag : Byte) (hs : s.free) :
    exec (.streamOn tag) s = .next ((handleStreamOn s).2.replying 0xA9 tag .ok 0 []) :=
  request_perform s .streamOn hs nofun

/-- STREAM_OFF that finds a place is its block's effect, answered OK. -/
theorem exec_streamOff {s : State} (tag : Byte) (hs : s.free) :
    exec (.streamOff tag) s = .next ((handleStreamOff s).2.replying 0xAA tag .ok 0 []) :=
  request_perform s .streamOff hs nofun

/-! ### What the stream unit does -/

/-- A byte up to 1 names yes exactly where it is 1. -/
theorem yesNoOfCode_byte (b : Byte) :
    yesNoOfCode b.toNat = if 1 < b.toNat then none else some (decide (b = 1)) := by
  have h1 : b = 1 ↔ b.toNat = 1 := BitVec.toNat_inj.symm
  simp only [h1]
  match b.toNat with
  | 0 | 1 => rfl
  | n + 2 => rw [if_pos (by omega)]; rfl

/-- R196: the period that a request for `n` ms sets. -/
theorem limited_period_eq (n : Nat) :
    max 1 (min 1000 n) = if n < 1 then 1 else if 1000 < n then 1000 else n := by
  split_ifs <;> omega

/-- R196: the request is answered OK exactly where its period lies in 1..1,000. -/
theorem limited_period_eq_self_iff (n : Nat) : max 1 (min 1000 n) = n ↔ ¬(n < 1 ∨ 1000 < n) := by omega

/-- R196: an idle byte above 1 is refused; else the limited period is in force at once in STOPPED, and pending in
STREAMING. -/
theorem handleSetStream_eq (period : BitVec 16) (idle : Byte) (s : State) :
    handleSetStream period idle s =
      let used := if period.toNat < 1 then 1 else if 1000 < period.toNat then 1000 else period.toNat
      if 1 < idle.toNat then (.refuse .badValue 2, s)
      else ({ status := if period.toNat < 1 ∨ 1000 < period.toNat then .clamped else .ok, detail := 0,
              data := bytes16 (BitVec.ofNat 16 used) },
        { s with stream := { s.stream with
            idle := decide (idle = 1)
            period := if s.stream.on then s.stream.period else used
            pendingPeriod := if s.stream.on then some used else s.stream.pendingPeriod } }) := by
  by_cases hi : 1 < idle.toNat
  · simp only [handleSetStream, yesNoOfCode_byte, if_pos hi]
  · simp only [handleSetStream, yesNoOfCode_byte, if_neg hi, limited_period_eq_self_iff, ite_not, ← limited_period_eq]
    cases h : s.stream.on with
    | true | false => simp [State.onStream, h]

/-- R197: in STOPPED the counts start at 0 and the timer with the period in force. -/
theorem handleStreamOn_snd (s : State) :
    (handleStreamOn s).2 =
      if s.stream.on then s
      else { s with stream := { s.stream with
          on := true, pendingLoss := 0, made := 0, dropped := 0, timer := some s.stream.period } } := by
  cases h : s.stream.on with
  | true | false => simp [handleStreamOn, State.onStream, h]

/-- R197: in STREAMING the timer stops, and a pending period becomes the period in force. -/
theorem handleStreamOff_snd (s : State) :
    (handleStreamOff s).2 =
      if s.stream.on then { s with stream := { s.stream with
          on := false, timer := none, period := s.stream.pendingPeriod.getD s.stream.period, pendingPeriod := none } }
      else s := by
  cases h : s.stream.on with
  | true | false => simp [handleStreamOff, State.onStream, h]

/-! ### The statement -/

/-- Settles O30: in each branch of R196 and of R197 the reply goes out from the state that the stream unit leaves. -/
theorem streamRequestsSetThePeriodAndTheState : Obligations.StreamRequestsSetThePeriodAndTheState := by
  refine ⟨fun s tag period idle hs => ?_, fun s tag hs => ?_, fun s tag hs => ?_⟩
  · rw [exec_setStream tag period idle hs, handleSetStream_eq]
    by_cases hi : 1 < idle.toNat
    · simp only [if_pos hi]
      rfl
    · simp only [if_neg hi]
  · rw [exec_streamOn tag hs, handleStreamOn_snd]
    split_ifs <;> rfl
  · rw [exec_streamOff tag hs, handleStreamOff_snd]
    split_ifs <;> rfl

end Sys2Proof.Machine
end

section
/-! What a step can do. Every command but POWER_ON is a chain of the changes listed here, so an invariant that each change
keeps is an invariant of the step. -/

namespace Sys2Proof.Machine

/-! ### The changes -/

/-- The two states agree on what the invariants read, up to lists that may have lost entries: a block outside them changed, a
record or a frame left its queue, a hold cause was removed. -/
structure State.Alike (s t : State) : Prop where
  state : t.frame.state = s.frame.state
  status : t.frame.status = s.frame.status
  defn : t.frame.defn = s.frame.defn
  move : t.frame.move.isSome = true → s.frame.move.isSome = true
  causes : t.hold.causes ≠ HoldCauses.empty → s.hold.causes ≠ HoldCauses.empty
  queue : t.recs.queue.Sublist s.recs.queue
  test : t.recs.test.map (·.specimen) = s.recs.test.map (·.specimen)
  results : t.recs.results.Sublist s.recs.results
  running : t.seq.running.isSome = s.seq.running.isSome
  eval : t.eval = s.eval
  records : t.events.records = s.events.records
  frames : t.link.eventQueue.Sublist s.link.eventQueue
  slots : s.link.slots.length ≤ 2 → t.link.slots.length ≤ 2
  replies : s.link.replies.length ≤ 2 → t.link.replies.length ≤ 2
  stream : s.link.streamQueue.length ≤ 64 → t.link.streamQueue.length ≤ 64
  samples : s.ext.fifo.length ≤ 4 → t.ext.fifo.length ≤ 4

/-- One change of the state that a command can make, with the conditions under which the commands make it. -/
inductive Change : State → State → Prop where
  /-- nothing but entries that leave their lists, and blocks that no invariant reads -/
  | alike {s t : State} : s.Alike t → Change s t
  /-- the open definition is replaced (R3) -/
  | defined {s : State} (d : FrameDefinition) : s.frame.status = .opened →
      Change s (s.onFrame fun f => { f with defn := d })
  /-- the definition is committed (R5) -/
  | committed {s : State} : s.frame.status = .opened → Change s (s.onFrame (·.commit s.inputs s.clock))
  /-- the frame moves between states outside a test -/
  | outside {s : State} (f : Frame) : s.inTest = false → f.state.inTest = false → f.status = s.frame.status →
      f.defn = s.frame.defn → (s.FrameInOrder → ({ s with frame := f } : State).FrameInOrder) →
      Change s { s with frame := f }
  /-- a move ends (R21, R22) -/
  | moveEnded {s : State} : s.frame.move.isSome = true → Change s (s.onFrame (·.endMove))
  /-- the test is held (R133) -/
  | held {s : State} (c : HoldCause) (n : Nat) : s.frame.state = .testing →
      Change s ((s.onHold fun h => { causes := h.causes.add c, count := n }).onFrame fun f => { f with state := .held })
  /-- a cause joins the set of a held test (R133) -/
  | joined {s : State} (c : HoldCause) : s.frame.state = .held →
      Change s (s.onHold fun h => { h with causes := h.causes.add c })
  /-- the test runs on (R136) -/
  | resumed {s : State} : s.frame.state = .held → s.hold.causes = HoldCauses.empty →
      Change s (s.onFrame fun f => { f with state := .testing })
  /-- the test ends without a fault of the frame (R120) -/
  | ended {s : State} (o : TestOutcome) (n : Nat) : s.inTest = true → o ≠ .frameFault → Change s (s.endTest o n)
  /-- the frame is faulted, and a test in progress ends (R14) -/
  | faulted {s : State} (k : EventKind) (d : Word32) : Change s (s.frameFault k d)
  /-- the evaluation unit works on, its yield values in order (R168, R170) -/
  | evaluated {s : State} (e : Evaluation) : (s.eval.InOrder → e.InOrder) → Change s (s.onEval fun _ => e)
  /-- a specimen with an ID of its own joins the queue (R141, R142) -/
  | queued {s : State} (x : Specimen) : s.recs.holdsId x.id = false → s.recs.queue.length < 8 →
      Change s (s.onRecs fun r => { r with queue := r.queue ++ [x] })
  /-- the head of the queue becomes the test in progress (R146) -/
  | started {s : State} (x : Specimen) (time : Word32) (v : Servo → Servo) (q : Sequencer → Sequencer) :
      s.frame.state = .ready → s.recs.queue.head? = some x → s.recs.results.length < 8 →
      (q s.seq).running.isSome = true →
      Change s ((((s.onRecs fun r =>
          { r with queue := r.queue.tail, test := some { specimen := x, startTime := time, pointMade := false } }).onFrame
        fun f => { f with state := .testing, gateActed := false }).onServo v).onSeq q)
  /-- an occurrence is recorded (R179) -/
  | recorded {s : State} (k : EventKind) (d : Word32) (c : EventClass) : Change s (s.record k d c)
  /-- the records of kinds are cleared with their frames (R188) -/
  | cleared {s : State} (kinds : Word32) : Change s (s.clearKinds kinds)

/-- A chain of changes. -/
def State.Changes : State → State → Prop := Relation.ReflTransGen Change

theorem State.Changes.refl {s : State} : s.Changes s := Relation.ReflTransGen.refl

theorem State.Changes.single {s t : State} (h : Change s t) : s.Changes t := Relation.ReflTransGen.single h

theorem State.Changes.trans {s t u : State} (h : s.Changes t) (h' : t.Changes u) : s.Changes u :=
  Relation.ReflTransGen.trans h h'

/-- The chain read from its end. -/
theorem State.Changes.after {s t u : State} (h' : t.Changes u) (h : s.Changes t) : s.Changes u := h.trans h'

/-- What every change keeps, a chain of changes keeps. -/
theorem State.Changes.keeps {P : State → Prop} (h : ∀ {s t}, Change s t → P s → P t) {s t : State} (c : s.Changes t)
    (hs : P s) : P t := by
  induction c with
  | refl => exact hs
  | tail _ hc ih => exact h hc ih

/-! ### Changes of blocks that no invariant reads -/

/-- A change that leaves alone the blocks that the invariants read. -/
theorem State.Alike.of_blocks {s t : State} (hframe : t.frame = s.frame) (hhold : t.hold = s.hold)
    (hrecs : t.recs = s.recs) (hrunning : t.seq.running = s.seq.running) (heval : t.eval = s.eval)
    (hrecords : t.events.records = s.events.records) (hlink : t.link = s.link) (hfifo : t.ext.fifo = s.ext.fifo) :
    s.Alike t := by
  constructor <;> simp [*]

theorem State.Changes.of_blocks {s t : State} (hframe : t.frame = s.frame) (hhold : t.hold = s.hold)
    (hrecs : t.recs = s.recs) (hrunning : t.seq.running = s.seq.running) (heval : t.eval = s.eval)
    (hrecords : t.events.records = s.events.records) (hlink : t.link = s.link) (hfifo : t.ext.fifo = s.ext.fifo) :
    s.Changes t :=
  .single (.alike (.of_blocks hframe hhold hrecs hrunning heval hrecords hlink hfifo))

/-- A link whose queues only lose entries, or gain them within their places. -/
theorem State.Alike.of_link {s : State} {g : Link → Link} (hframes : (g s.link).eventQueue.Sublist s.link.eventQueue)
    (hslots : s.link.slots.length ≤ 2 → (g s.link).slots.length ≤ 2)
    (hreplies : s.link.replies.length ≤ 2 → (g s.link).replies.length ≤ 2)
    (hstream : s.link.streamQueue.length ≤ 64 → (g s.link).streamQueue.length ≤ 64) : s.Alike (s.onLink g) :=
  ⟨rfl, rfl, rfl, id, id, .refl _, rfl, .refl _, rfl, rfl, rfl, hframes, hslots, hreplies, hstream, id⟩

section
variable (s : State)

theorem changes_onInputs (g : Inputs → Inputs) : s.Changes (s.onInputs g) := .of_blocks rfl rfl rfl rfl rfl rfl rfl rfl
theorem changes_onServo (g : Servo → Servo) : s.Changes (s.onServo g) := .of_blocks rfl rfl rfl rfl rfl rfl rfl rfl
theorem changes_onForce (g : Force → Force) : s.Changes (s.onForce g) := .of_blocks rfl rfl rfl rfl rfl rfl rfl rfl
theorem changes_onStrain (g : Strain → Strain) : s.Changes (s.onStrain g) := .of_blocks rfl rfl rfl rfl rfl rfl rfl rfl
theorem changes_onWatches (g : Vector Watch 5 → Vector Watch 5) : s.Changes (s.onWatches g) :=
  .of_blocks rfl rfl rfl rfl rfl rfl rfl rfl
theorem changes_onStream (g : Stream → Stream) : s.Changes (s.onStream g) := .of_blocks rfl rfl rfl rfl rfl rfl rfl rfl
theorem changes_onPoints (g : Deliveries → Deliveries) : s.Changes (s.onPoints g) :=
  .of_blocks rfl rfl rfl rfl rfl rfl rfl rfl
theorem changes_onMail (g : List Notice → List Notice) : s.Changes (s.onMail g) :=
  .of_blocks rfl rfl rfl rfl rfl rfl rfl rfl
theorem changes_onSeq {g : Sequencer → Sequencer} (h : (g s.seq).running = s.seq.running) : s.Changes (s.onSeq g) :=
  .of_blocks rfl rfl rfl h rfl rfl rfl rfl
theorem changes_onEvents {g : Events → Events} (h : (g s.events).records = s.events.records) : s.Changes (s.onEvents g) :=
  .of_blocks rfl rfl rfl rfl rfl h rfl rfl
theorem changes_onExt {g : Receiver → Receiver} (h : s.ext.fifo.length ≤ 4 → (g s.ext).fifo.length ≤ 4) :
    s.Changes (s.onExt g) :=
  .single (.alike ⟨rfl, rfl, rfl, id, id, .refl _, rfl, .refl _, rfl, rfl, rfl, .refl _, id, id, id, h⟩)
theorem changes_onHold {g : Hold → Hold}
    (h : (g s.hold).causes ≠ HoldCauses.empty → s.hold.causes ≠ HoldCauses.empty) : s.Changes (s.onHold g) :=
  .single (.alike ⟨rfl, rfl, rfl, id, h, .refl _, rfl, .refl _, rfl, rfl, rfl, .refl _, id, id, id, id⟩)
/-- A frame whose state, status and definition stay, and that gains no move record. -/
theorem changes_onFrame {g : Frame → Frame} (hstate : (g s.frame).state = s.frame.state)
    (hstatus : (g s.frame).status = s.frame.status) (hdefn : (g s.frame).defn = s.frame.defn)
    (hmove : (g s.frame).move.isSome = true → s.frame.move.isSome = true) : s.Changes (s.onFrame g) :=
  .single (.alike ⟨hstate, hstatus, hdefn, hmove, id, .refl _, rfl, .refl _, rfl, rfl, rfl, .refl _, id, id, id, id⟩)
/-- Records that lose entries, while the test in progress keeps its specimen. -/
theorem changes_onRecs {g : Records → Records} (hqueue : (g s.recs).queue.Sublist s.recs.queue)
    (htest : (g s.recs).test.map (·.specimen) = s.recs.test.map (·.specimen))
    (hresults : (g s.recs).results.Sublist s.recs.results) : s.Changes (s.onRecs g) :=
  .single (.alike ⟨rfl, rfl, rfl, id, id, hqueue, htest, hresults, rfl, rfl, rfl, .refl _, id, id, id, id⟩)
theorem changes_onEval {g : Evaluation → Evaluation} (h : s.eval.InOrder → (g s.eval).InOrder) :
    s.Changes (s.onEval g) := .single (.evaluated (g s.eval) h)
theorem changes_send (n : Notice) : s.Changes (s.send n) := changes_onMail s _
theorem changes_taken (n : Notice) : s.Changes (s.taken n) := changes_onMail s _

/-! ### The shared operations -/

theorem changes_record (k : EventKind) (d : Word32) (c : EventClass) : s.Changes (s.record k d c) :=
  .single (.recorded k d c)

theorem changes_endTest {o : TestOutcome} (n : Nat) (h : s.inTest = true) (ho : o ≠ .frameFault) :
    s.Changes (s.endTest o n) := .single (.ended o n h ho)

/-- A chain that goes on from whichever of two states a condition chooses. -/
theorem changes_ite {c : Prop} [Decidable c] {t u : State} (ht : c → s.Changes t) (hu : ¬c → s.Changes u) :
    s.Changes (if c then t else u) := by
  split
  · exact ht ‹_›
  · exact hu ‹_›

/-- A chain that a condition lengthens. -/
theorem State.Changes.then_if {s t u : State} {c : Prop} [Decidable c] (ht : s.Changes t) (hu : c → t.Changes u) :
    s.Changes (if c then u else t) :=
  changes_ite s (fun h => ht.trans (hu h)) fun _ => ht

theorem changes_classEffect (k : EventKind) (d : Word32) (c : EventClass) : s.Changes (s.classEffect k d c) := by
  cases c with
  | info | warning => exact .refl
  | testFault => exact changes_ite s (fun h => changes_endTest s _ h nofun) fun _ => .refl
  | frameFault => exact .single (.faulted k d)

theorem changes_raise (k : EventKind) (d : Word32) : s.Changes (s.raise k d) :=
  (changes_record s _ _ _).trans (changes_classEffect _ _ _ _)

/-- Several occurrences, one for each entry of a list. -/
theorem changes_foldl {α : Type} {f : State → α → State} (h : ∀ u x, State.Changes u (f u x)) (xs : List α) :
    s.Changes (xs.foldl f s) := by
  induction xs generalizing s with
  | nil => exact .refl
  | cons x xs ih => exact (h s x).trans (ih _)

theorem changes_setHold (c : HoldCause) : s.Changes (s.setHold c) := by
  unfold State.setHold
  split
  next h =>
    refine .trans (.then_if (.then_if (.single (.held c _ h)) fun _ => ?_) fun _ => ?_) (changes_raise _ _ _)
    · exact changes_onServo _ _
    · exact changes_onSeq _ rfl
  next h => exact .single (.joined c h)
  · exact .refl

theorem changes_enterStage (n cause : Nat) : s.Changes (s.enterStage n cause) := by
  unfold State.enterStage
  refine .then_if (.trans (changes_onSeq s ?_) (changes_raise _ _ _)) fun _ => changes_send _ _
  rfl

theorem changes_stageEnd (point : Word32) (cause : Nat) (h : s.inTest = true) : s.Changes (s.stageEnd point cause) := by
  unfold State.stageEnd
  refine changes_ite _ (fun _ => .refl) fun _ => .trans (changes_onSeq s (g := fun q => { q with lastEnd := some point }) rfl) ?_
  dsimp only
  split
  · exact .refl
  · exact changes_ite _ (fun _ => changes_enterStage _ _ _) fun _ => changes_endTest _ _ h nofun

/-- The arbiter starts nothing, or the oldest reply, event frame or stream record (R195). -/
theorem Link.arbitrate_cases (l : Link) (ready : Bool) (e : Events) :
    l.arbitrate ready e = l ∨
    (∃ r rest, l.replies = r :: rest ∧ l.arbitrate ready e = { l with replies := rest, tx := some r }) ∨
    (∃ k rest, l.eventQueue = k :: rest ∧
      l.arbitrate ready e = { l with eventQueue := rest, tx := some (e.frameOf k) }) ∨
    ∃ r rest, l.streamQueue = r :: rest ∧ l.arbitrate ready e = { l with streamQueue := rest, tx := some r.frame } := by
  unfold Link.arbitrate
  split
  · split
    next r rest h => exact .inr (.inl ⟨r, rest, h, rfl⟩)
    next k rest _ h => exact .inr (.inr (.inl ⟨k, rest, h, rfl⟩))
    next r rest _ _ h => exact .inr (.inr (.inr ⟨r, rest, h, rfl⟩))
    · exact .inl rfl
  · exact .inl rfl

theorem changes_transmit : s.Changes s.transmit := by
  refine .single (.alike ?_)
  obtain h | ⟨r, rest, hq, h⟩ | ⟨k, rest, hq, h⟩ | ⟨r, rest, hq, h⟩ :=
    s.link.arbitrate_cases s.inputs.hostReady s.events <;> refine .of_link ?_ ?_ ?_ ?_ <;> rw [h]
  case inr.inl.refine_3 => simp [hq]; omega
  case inr.inr.inl.refine_1 => rw [hq]; exact List.sublist_cons_self ..
  case inr.inr.inr.refine_4 => simp [hq]; omega
  all_goals simp

end

end Sys2Proof.Machine
end

section
/-! The blocks' operations and the requests as chains of changes. -/

namespace Sys2Proof.Machine

section
variable (s : State)

/-! ### Force channel and strain source -/

theorem changes_removalTrigger : s.Changes s.removalTrigger := by
  unfold State.removalTrigger
  split
  · exact .then_if .refl fun _ => changes_onStrain _ _
  · exact .refl

theorem changes_raiseLost (detail : Nat) : s.Changes (s.raiseLost detail) :=
  .then_if (changes_raise s _ _) fun _ => changes_setHold _ _

theorem changes_strainTestEnd : s.Changes s.strainTestEnd :=
  .of_blocks (strainTestEnd_frame s) (strainTestEnd_hold s) (strainTestEnd_recs s) (by simp) (strainTestEnd_eval s)
    (by simp) (strainTestEnd_link s) (by simp)

theorem changes_settleStrain : s.Changes s.settleStrain :=
  .of_blocks (settleStrain_frame s) (settleStrain_hold s) (settleStrain_recs s) (by simp) (settleStrain_eval s)
    (by simp) (settleStrain_link s) (by simp)

theorem changes_settleEnds : s.Changes s.settleEnds :=
  .of_blocks (settleEnds_frame s) (settleEnds_hold s) (settleEnds_recs s) (by simp) (settleEnds_eval s)
    (by simp) (settleEnds_link s) (by simp)

theorem changes_settlePast : s.Changes s.settlePast :=
  (changes_settleEnds s).trans ((changes_onMail _ _).trans (changes_onPoints _ _))

theorem changes_clearBreak : s.Changes s.clearBreak := changes_ite _ (fun _ => .refl) fun _ => changes_onForce _ _

theorem changes_checkOverRange (before : Bool) : s.Changes (s.checkOverRange before) :=
  .then_if .refl fun _ => changes_raise _ _ _

theorem changes_checkOverload : s.Changes s.checkOverload :=
  .then_if .refl fun _ => .then_if (changes_onForce _ _) fun _ => changes_raise _ _ _

theorem changes_checkForceLimit : s.Changes s.checkForceLimit := by
  unfold State.checkForceLimit
  split
  · exact .then_if .refl fun _ => changes_raise _ _ _
  · exact .refl

theorem changes_checkBreak : s.Changes s.checkBreak := by
  unfold State.checkBreak
  split
  · refine .then_if (changes_onForce _ _) fun _ => ?_
    split
    · exact (changes_onForce _ _).trans (changes_raise _ _ _)
    · exact .refl
  · exact .refl

theorem changes_strainPresenceLost : s.Changes s.strainPresenceLost := by
  unfold State.strainPresenceLost
  split
  · exact changes_onStrain _ _
  · exact changes_onStrain _ _
  · exact (changes_onStrain _ _).trans (changes_raiseLost _ _)
  all_goals exact .refl

theorem changes_raiseGaps (samples : List Sample) : s.Changes (s.raiseGaps samples) :=
  changes_foldl _ (fun _ _ => .then_if .refl fun _ => changes_raise _ _ _) _

theorem changes_drain : s.Changes s.drain :=
  ((((changes_onExt s (g := fun r => { r with fifo := [] }) fun _ => Nat.zero_le _).trans
    (changes_onStrain _ _)).trans (changes_raiseGaps _ _)).trans (changes_settleStrain _))

theorem changes_starve (xh : Int) : s.Changes (s.starve xh) :=
  .then_if .refl fun _ => ((changes_onStrain _ _).trans (changes_raiseLost _ _)).trans (changes_settleStrain _)

theorem changes_giveStrain (xh : Int) (starved : Option Int) : s.Changes (s.giveStrain xh starved).1 := by
  unfold State.giveStrain
  split
  · cases s.strain.state with
    | removing | derived =>
      cases s.strain.pendingSwitch with
      | some carry => dsimp only; exact changes_onStrain s _
      | none => exact .refl
    | absent | fitted | zeroed | following => exact .refl
  · exact .refl

theorem changes_strainStep (p force : Int) : s.Changes (s.strainStep p force).1 :=
  (((changes_settleStrain s).trans (changes_drain _)).trans (changes_starve _ _)).trans (changes_giveStrain _ _ _)

/-! ### Servo loop -/

@[simp] theorem signReturn_state (f : Frame) (sp : Int) : (f.signReturn sp).state = f.state := rfl
@[simp] theorem signReturn_status (f : Frame) (sp : Int) : (f.signReturn sp).status = f.status := rfl
@[simp] theorem signReturn_defn (f : Frame) (sp : Int) : (f.signReturn sp).defn = f.defn := rfl
@[simp] theorem signReturn_move_isSome (f : Frame) (sp : Int) : (f.signReturn sp).move.isSome = f.move.isSome := by
  simp [Frame.signReturn]

theorem changes_tick : s.Changes s.tick := by
  refine .single (.alike ⟨rfl, rfl, rfl, ?_, id, .refl _, rfl, .refl _, rfl, rfl, rfl, .refl _, id, id, id, id⟩)
  simp [State.tick]

theorem changes_control (p force eps : Int) : s.Changes (s.control p force eps).1 := by
  unfold State.control
  split
  · dsimp only
    exact changes_onServo _ _
  · refine .single (.alike ⟨?_, ?_, ?_, ?_, id, .refl _, rfl, .refl _, rfl, rfl, rfl, .refl _, id, id, id, id⟩)
    all_goals dsimp only; split_ifs <;> simp

theorem changes_limitMove (p : Int) (gate : Gate) (m : Move) (h : s.frame.move.isSome = true) :
    s.Changes (s.limitMove p gate m) := by
  refine changes_ite _ (fun _ => changes_onFrame _ rfl rfl rfl fun _ => h) fun _ => ?_
  have ended : s.Changes ((s.onFrame (·.endMove)).onServo (·.freeze p)) :=
    (State.Changes.single (.moveEnded h)).trans (changes_onServo _ _)
  dsimp only
  split
  · exact ended.trans (changes_raise _ _ _)
  · exact ended

theorem changes_superviseMove (p : Int) (gate : Gate) (m : Move) (h : s.frame.move.isSome = true) :
    s.Changes (s.superviseMove p gate m) := by
  unfold State.superviseMove
  dsimp only
  split
  · exact changes_ite _ (fun _ => .then_if (.single (.moveEnded h)) fun _ => changes_raise _ _ _) fun _ =>
      changes_limitMove _ _ _ _ h
  · exact changes_limitMove _ _ _ _ h

theorem changes_superviseTest (gate : Gate) : s.Changes (s.superviseTest gate) := by
  have marked : s.Changes (s.onFrame fun f => { f with gateActed := gate ≠ .none }) :=
    changes_onFrame _ rfl rfl rfl id
  refine changes_ite _ (fun _ => marked) fun _ => marked.trans ?_
  cases gate with
  | none => exact .refl
  | travelMax | travelMin => exact changes_raise _ _ _

theorem changes_supervise (p : Int) (gate : Gate) : s.Changes (s.supervise p gate) := by
  have moves : s.Changes (match s.frame.move with
      | some m => s.superviseMove p gate m
      | none => s) := by
    split
    next m h => exact changes_superviseMove _ _ _ _ (by simp [h])
    · exact .refl
  unfold State.supervise
  split
  · exact moves
  · exact moves
  iterate 2 exact changes_superviseTest _ _
  all_goals exact .refl

theorem changes_makePoint (p force eps : Int) : s.Changes (s.makePoint p force eps) := by
  refine changes_ite _ (fun _ => ?_) fun _ => (changes_settleStrain s).trans (changes_onServo _ _)
  refine .trans (.trans (changes_onServo s _) (changes_onRecs _ (.refl _) ?_ (.refl _))) (changes_onPoints _ _)
  simp [Function.comp_def]

theorem changes_servoStep : s.Changes s.servoStep :=
  ((((changes_strainStep s _ _).trans (changes_control _ _ _ _)).trans (changes_supervise _ _ _)).trans
    (changes_makePoint _ _ _ _)).trans (changes_onServo _ _)

/-! ### Evaluation unit -/

section
variable {e : Evaluation} (x : Point)

theorem inOrder_raiseMax (h : e.InOrder) : ((e.addEnergy x).raiseMax x).InOrder := by
  unfold Evaluation.raiseMax
  split
  next hm =>
    refine ⟨h.elastic, h.lower, fun r hr => ⟨x.f, rfl, ?_⟩⟩
    obtain ⟨m, hf, hle⟩ := h.offset r hr
    have : m < x.f := by simpa [Evaluation.addEnergy, hf] using hm
    exact hle.trans this.le
  · exact ⟨h.elastic, h.lower, h.offset⟩

/-- After the maximum has been raised to a point it is not below that point (R161). -/
theorem raiseMax_fmax : ∃ m, ((e.addEnergy x).raiseMax x).fmax = some m ∧ x.f ≤ m := by
  unfold Evaluation.raiseMax
  split
  next hm => exact ⟨x.f, rfl, le_rfl⟩
  next hm =>
    cases hf : e.fmax with
    | none => simp [Evaluation.addEnergy, hf] at hm
    | some m => exact ⟨m, hf, by simpa [Evaluation.addEnergy, hf] using hm⟩

theorem inOrder_closeFit (s0 : Int) (h : e.InOrder) : (e.closeFit s0).InOrder := by
  unfold Evaluation.closeFit
  split <;> exact ⟨h.elastic, h.lower, h.offset⟩

theorem inOrder_addPoint (h : e.InOrder) : (e.addPoint x).InOrder := by
  unfold Evaluation.addPoint
  split_ifs <;> exact ⟨h.elastic, h.lower, h.offset⟩

@[simp] theorem closeFit_fmax (s0 : Int) : (e.closeFit s0).fmax = e.fmax := by
  unfold Evaluation.closeFit; split <;> rfl
@[simp] theorem addPoint_fmax : (e.addPoint x).fmax = e.fmax := by
  unfold Evaluation.addPoint; split_ifs <;> rfl

/-- Tracking moves the candidate alone (R166). -/
theorem track_eq : e.track x = { e with tracking := (e.track x).tracking } := by
  unfold Evaluation.track
  cases e.tracking <;> dsimp only <;> split_ifs <;> rfl

theorem inOrder_track (h : e.InOrder) : (e.track x).InOrder := by
  rw [track_eq]; exact ⟨h.elastic, h.lower, h.offset⟩

@[simp] theorem track_phase : (e.track x).phase = e.phase := by rw [track_eq]
@[simp] theorem track_fmax : (e.track x).fmax = e.fmax := by rw [track_eq]

/-- A capture comes before any lower yield (R167). -/
theorem inOrder_capture (c : Candidate) (g : Int) (hp : e.phase = .elastic) (h : e.InOrder) :
    (e.capture c g).InOrder := by
  refine ⟨nofun, fun l hl => ?_, h.offset⟩
  rw [show (e.capture c g).reL = e.reL from rfl, h.elastic hp] at hl
  exact absurd hl nofun

/-- The lower yield is set below the upper yield, and only moves down (R168). -/
theorem inOrder_lowerYield (hp : e.phase = .discontinuous) (h : e.InOrder) : (e.lowerYield x).InOrder := by
  have elastic : e.phase ≠ .elastic := by simp [hp]
  unfold Evaluation.lowerYield
  split
  · split
    next r hr =>
      split
      next hx =>
        refine ⟨(absurd · elastic), fun l hl => ?_, h.offset⟩
        obtain ⟨u, hu, hlt⟩ := h.lower r hr
        cases hl
        exact ⟨u, hu, hx.trans hlt⟩
      · exact h
    next hr =>
      split
      next hx =>
        refine ⟨(absurd · elastic), fun l hl => ?_, h.offset⟩
        obtain ⟨u, hu, hlt⟩ := Option.any_eq_true .. |>.1 hx
        exact ⟨u, hu, by simpa [← Option.some.inj hl] using hlt⟩
      · exact ⟨nofun, h.lower, h.offset⟩
  · exact h

theorem inOrder_endPlateau (margin : Int) (h : e.InOrder) : (e.endPlateau margin x).InOrder := by
  unfold Evaluation.endPlateau
  split
  · split_ifs
    · exact ⟨nofun, h.lower, h.offset⟩
    · exact h
  · exact h

theorem inOrder_plateauAt (margin : Int) (hp : e.phase = .discontinuous) (h : e.InOrder) :
    (e.plateauAt margin x).InOrder := by
  unfold Evaluation.plateauAt
  split_ifs
  · exact inOrder_lowerYield x hp h
  · exact inOrder_endPlateau x margin (inOrder_lowerYield x hp h)

theorem inOrder_neck (h : e.InOrder) : e.neck.InOrder := ⟨nofun, h.lower, h.offset⟩

theorem inOrder_start (p : Program) (s0 : Int) : (Evaluation.start p s0).InOrder :=
  ⟨fun _ => rfl, nofun, nofun⟩

end

theorem changes_fitStep (x : Point) : s.Changes (s.fitStep x) := by
  refine .then_if .refl fun _ => changes_ite _ (fun _ => ?_) fun _ => .then_if .refl fun _ => ?_
  · refine (changes_onEval s (g := (·.closeFit s.s0)) (inOrder_closeFit _)).trans ?_
    unfold State.raiseFit
    dsimp only
    split
    · exact (changes_raise _ _ _).trans (changes_raise _ _ _)
    · exact changes_raise _ _ _
  · exact changes_onEval _ (inOrder_addPoint x)

theorem changes_foundYield (d : Word32) : s.Changes (s.foundYield d) := (changes_raise _ _ _).trans (changes_send _ _)

theorem changes_upperYield (p : Program) (x : Point) : s.Changes (s.upperYield p x) := by
  refine .then_if .refl fun hp => .trans (changes_onEval s (g := (·.track x)) (inOrder_track x)) ?_
  dsimp only
  split
  · refine .then_if .refl fun _ => .trans (changes_onEval _ ?_) (changes_foundYield _ _)
    exact inOrder_capture _ _ (by simpa using hp)
  · exact .refl

theorem changes_offsetYield (p : Program) (x : Point) (h : ∃ m, s.eval.fmax = some m ∧ x.f ≤ m) :
    s.Changes (s.offsetYield p x) := by
  unfold State.offsetYield
  split
  · refine .then_if .refl fun _ => ?_
    have recorded : s.Changes (s.onEval fun e => { e with rp := some x.f }) :=
      changes_onEval s fun ho => ⟨ho.elastic, ho.lower, fun r hr => by cases hr; exact h⟩
    refine .then_if recorded fun _ => (changes_onEval _ fun ho => ?_).trans (changes_foundYield _ _)
    exact ⟨nofun, ho.lower, ho.offset⟩
  · exact .refl

theorem changes_plateauStep (p : Program) (x : Point) : s.Changes (s.plateauStep p x) :=
  .then_if .refl fun hp => changes_onEval _ (inOrder_plateauAt x _ hp)

theorem changes_neckingStep (p : Program) (x : Point) : s.Changes (s.neckingStep p x) := by
  have necks (m : Int) : s.Changes ((((s.onEval (·.neck)).raise .fmaxPassed (signed32 (newtons m))).send
      .fmaxPassed).send .necking) :=
    (((changes_onEval s inOrder_neck).trans (changes_raise _ _ _)).trans (changes_send _ _)).trans (changes_send _ _)
  unfold State.neckingStep
  split
  · exact .then_if .refl fun _ => necks _
  · exact .then_if .refl fun _ => necks _
  · exact .refl

@[simp] theorem raiseFit_eval (n : Int) (i : Option Nat) : (s.raiseFit n i).eval = s.eval := by
  cases i <;> simp [State.raiseFit]

@[simp] theorem foundYield_eval (d : Word32) : (s.foundYield d).eval = s.eval := by
  simp [State.foundYield, send_eq]

@[simp] theorem fitStep_fmax (x : Point) : (s.fitStep x).eval.fmax = s.eval.fmax := by
  unfold State.fitStep; split_ifs <;> simp

@[simp] theorem upperYield_fmax (p : Program) (x : Point) : (s.upperYield p x).eval.fmax = s.eval.fmax := by
  unfold State.upperYield
  split
  · dsimp only
    split
    · split_ifs <;> simp [Evaluation.capture]
    · simp
  · rfl

theorem changes_evaluationPoint (x : Point) : s.Changes (s.evaluationPoint x) := by
  unfold State.evaluationPoint
  split
  next p _ _ =>
    have first : s.Changes (s.onEval fun e => (e.addEnergy x).raiseMax x) := changes_onEval s (inOrder_raiseMax x)
    refine changes_ite _ (fun _ => first) fun _ => ?_
    refine .after (changes_neckingStep _ _ _) <| .after (changes_plateauStep _ _ _) <|
      .after (changes_offsetYield _ _ _ ?_) <| .after (changes_upperYield _ _ _) <| .after (changes_fitStep _ _) first
    rw [upperYield_fmax, fitStep_fmax]
    exact raiseMax_fmax x
  · exact .refl

end

end Sys2Proof.Machine
end

section
/-! The sequencer, the watch unit, the receiver and the requests as chains of changes. -/

namespace Sys2Proof.Machine

section
variable (s : State)

/-! ### Stage sequencer and watch unit -/

theorem changes_sequencerPoint (x : Point) : s.Changes (s.sequencerPoint x) := by
  refine .then_if .refl fun ht => changes_ite _ (fun _ => ?_) fun _ => .then_if .refl fun _ => ?_
  · exact (changes_onForce s _).trans (changes_endTest _ _ ht nofun)
  · split
    · exact changes_stageEnd _ _ _ ht
    · exact .refl

theorem changes_takeNextStage (time : Word32) : s.Changes (s.takeNextStage time) :=
  .then_if (changes_taken _ _) fun h => changes_stageEnd _ _ _ h

theorem changes_settleStages : s.Changes s.settleStages := changes_foldl _ changes_takeNextStage _

theorem changes_watchAction (time : Word32) (a : WatchAction) : s.Changes (s.watchAction time a) := by
  cases a with
  | notify | endTest => exact .refl
  | hold => exact (changes_settleStages s).trans (changes_setHold _ _)
  | nextStage | removeExt => exact changes_send _ _

theorem changes_watchActionBeforeEnd (a : WatchAction) : s.Changes (s.watchActionBeforeEnd a) := by
  cases a with
  | removeExt => exact changes_removalTrigger s
  | notify | endTest | hold | nextStage => exact .refl

@[simp] theorem removalTrigger_inTest : s.removalTrigger.inTest = s.inTest := by
  unfold State.removalTrigger
  split
  · split <;> rfl
  · rfl

@[simp] theorem watchActionBeforeEnd_inTest (a : WatchAction) : (s.watchActionBeforeEnd a).inTest = s.inTest := by
  cases a <;> simp [State.watchActionBeforeEnd]

theorem foldl_watchActionBeforeEnd_inTest (fired : List (Nat × WatchAction)) :
    (fired.foldl (fun t e => t.watchActionBeforeEnd e.2) s).inTest = s.inTest := by
  induction fired generalizing s with
  | nil => rfl
  | cons e rest ih => simp [ih]

@[simp] theorem raise_watchFired_inTest (d : Word32) : (s.raise .watchFired d).inTest = s.inTest := by simp

theorem raiseFirings_inTest (fired : List (Nat × WatchAction)) : (s.raiseFirings fired).inTest = s.inTest := by
  unfold State.raiseFirings
  induction fired generalizing s with
  | nil => rfl
  | cons e rest ih => rw [List.foldl_cons, ih, raise_watchFired_inTest]

theorem changes_watchActions (time : Word32) (fired : List (Nat × WatchAction)) (h : s.inTest = true) :
    s.Changes (s.watchActions time fired) := by
  refine changes_ite _ (fun _ => ?_) fun _ => changes_foldl _ (fun _ _ => changes_watchAction _ _ _) _
  refine .after (changes_endTest _ _ ?_ nofun) (changes_foldl _ (fun _ _ => changes_watchActionBeforeEnd _ _) _)
  rwa [foldl_watchActionBeforeEnd_inTest]

theorem changes_raiseFirings (fired : List (Nat × WatchAction)) : s.Changes (s.raiseFirings fired) :=
  changes_foldl _ (fun _ _ => changes_raise _ _ _) _

theorem changes_watchPoint (x : Point) : s.Changes (s.watchPoint x) := by
  refine .then_if .refl fun ht => .after (changes_watchActions _ _ _ ?_) <| .after (changes_raiseFirings _ _) <|
    changes_onWatches s _
  rw [raiseFirings_inTest]
  exact ht

/-! ### Extensometer receiver -/

section
variable (r : Receiver)

@[simp] theorem hunt_fifo : r.hunt.fifo = r.fifo := rfl
@[simp] theorem huntByte_fifo (b : Byte) : (r.huntByte b).fifo = r.fifo := by
  unfold Receiver.huntByte; split_ifs <;> rfl
@[simp] theorem collect_fifo (b : Byte) : (r.collect b).fifo = r.fifo := rfl
@[simp] theorem nextFrame_fifo (st : ReceiverState) : (r.nextFrame st).fifo = r.fifo := rfl
@[simp] theorem firstByte_fifo (b : Byte) : (r.firstByte b).fifo = r.fifo := by
  unfold Receiver.firstByte; dsimp only; split_ifs <;> rfl

/-- A full FIFO takes no sample (R81). -/
theorem offer_fifo_length (x : Sample) (h : r.fifo.length ≤ 4) : (r.offer x).fifo.length ≤ 4 := by
  unfold Receiver.offer
  split_ifs
  · simpa using by omega
  · exact h

theorem deliver_fifo_length (body : List Byte) (h : r.fifo.length ≤ 4) : (r.deliver body).fifo.length ≤ 4 := by
  unfold Receiver.deliver
  refine offer_fifo_length _ _ ?_
  split_ifs <;> exact h

end

/-- The receiver keeps its FIFO. -/
theorem changes_onExt_of_fifo {g : Receiver → Receiver} (h : (g s.ext).fifo = s.ext.fifo) : s.Changes (s.onExt g) :=
  changes_onExt s (by rw [h]; exact id)

theorem changes_confirmByte (b : Byte) : s.Changes (s.confirmByte b) := by
  unfold State.confirmByte
  dsimp only
  split
  · exact changes_ite _ (fun _ => changes_onExt_of_fifo s rfl) fun _ => changes_onExt_of_fifo s (by simp)
  · refine changes_ite _ (fun _ => changes_onExt_of_fifo s rfl) fun _ => changes_ite _ (fun _ => ?_) fun _ =>
      changes_onExt_of_fifo s rfl
    refine .after (changes_send _ _) <| .after (changes_onExt_of_fifo _ rfl) (changes_onExt s fun h => ?_)
    exact deliver_fifo_length _ _ h

theorem changes_slip (b : Byte) : s.Changes (s.slip b) :=
  .after (changes_send _ _) <| .after (changes_onExt_of_fifo _ (by simp)) (changes_raise s _ _)

theorem changes_badFrame (r1 : Receiver) (h : r1.fifo = s.ext.fifo) : s.Changes (s.badFrame r1) := by
  have offered : s.Changes (((s.onExt fun _ => { r1.nextFrame .locked with badCount := r1.badCount + 1 }).raise .extCheck
      (BitVec.ofNat 32 (r1.badCount + 1))).onExt (·.offer (r1.sampleOf r1.body))) :=
    .after (changes_onExt _ (offer_fifo_length _ _)) <| .after (changes_raise _ _ _) (changes_onExt_of_fifo s h)
  exact .then_if offered fun _ => .after (changes_send _ _) (changes_onExt_of_fifo _ rfl)

theorem changes_lockedByte (b : Byte) : s.Changes (s.lockedByte b) := by
  unfold State.lockedByte
  dsimp only
  split
  · exact changes_ite _ (fun _ => changes_onExt_of_fifo s rfl) fun _ => changes_slip s b
  · refine changes_ite _ (fun _ => changes_onExt_of_fifo s rfl) fun _ => changes_ite _ (fun _ => ?_) fun _ =>
      changes_badFrame s _ rfl
    exact changes_onExt s fun h => deliver_fifo_length _ _ h

/-! ### Stream unit and RESET -/

theorem changes_offerRecord : s.Changes s.offerRecord := by
  refine changes_ite _ (fun h => ?_) fun _ => .after (changes_raise _ _ _) (changes_onStream s _)
  refine .then_if (.after (changes_onStream _ _) (.single (.alike (.of_link ?_ ?_ ?_ ?_)))) fun _ => changes_onSeq _ rfl
  · exact .refl _
  · exact id
  · exact id
  · intro _
    simpa using by omega

theorem changes_streamExpiry : s.Changes s.streamExpiry :=
  .then_if (changes_onStream s _) fun _ => .after (changes_offerRecord _) (changes_onStream _ _)

theorem changes_clearKinds (kinds : Word32) : s.Changes (s.clearKinds kinds) := .single (.cleared kinds)

theorem changes_raiseCabinet : s.Changes s.raiseCabinet := changes_foldl _ (fun _ _ => changes_raise _ _ _) _

/-- The end of a test by RESET leaves no test in progress. -/
theorem inTest_endTest_reset (n : Nat) : (s.endTest .reset n).inTest = false := by
  rw [State.inTest, endTest_frame]
  exact afterTest_inTest _ _ _ _ nofun

/-- A frame after RESET: DRIVE_OFF where it is committed, else UNDEFINED, without a move (R25). -/
theorem changes_resetFrame (h : s.inTest = false) : s.Changes (s.onFrame (·.resetRequest)) := by
  refine .single (.outside s.frame.resetRequest h ?_ rfl rfl fun _ => ⟨fun ho => ?_, nofun⟩)
  · simp only [Frame.resetRequest]
    split_ifs <;> rfl
  · have : s.frame.status = .opened := ho
    simp [Frame.resetRequest, this]

theorem changes_resetModule : s.Changes s.resetModule := by
  have test : s.Changes (if s.inTest then s.endTest .reset 0 else s) :=
    .then_if .refl fun h => changes_endTest _ _ h nofun
  have none : (if s.inTest then s.endTest .reset 0 else s).inTest = false := by
    split
    · exact inTest_endTest_reset s 0
    next h => simpa using h
  refine .after (changes_raiseCabinet _) <| .after (changes_clearKinds _ _) <| .after (changes_onStrain _ _) <|
    .after (.single (.alike (.of_link (.refl _) id id fun _ => Nat.zero_le _))) <| .after (changes_onStream _ _) <|
    .after (changes_onSeq _ rfl) <| .after (changes_onWatches _ _) <| .after (changes_onServo _ _) <|
    .after (changes_resetFrame _ ?_) <| .after (changes_onRecs _ (List.nil_sublist _) rfl (.refl _)) <|
    .after (changes_onHold _ (absurd rfl)) <| .after (changes_settleEnds _) test
  simpa [State.inTest] using none

/-! ### The start of a test -/

/-- What the checks of TEST_START have found when they pass (R145). -/
theorem startCheck_passed {x : Specimen} {p : Program} (h : s.startCheck = .passed x p) :
    s.frame.state = .ready ∧ s.recs.queue.head? = some x ∧ s.recs.results.length < 8 := by
  unfold State.startCheck at h
  split at h
  · cases h
  next hr =>
    split at h
    · cases h
    next hq =>
      split at h
      · cases h
      next hl =>
        split at h
        · cases h
        · split at h
          · cases h
          · split at h
            · cases h
            · cases h
              exact ⟨by simpa using hr, by rw [hq]; rfl, by omega⟩

theorem changes_startTest (x : Specimen) (p : Program) (hr : s.frame.state = .ready) (hq : s.recs.queue.head? = some x)
    (hl : s.recs.results.length < 8) : s.Changes (s.startTest x p) := by
  refine .after (changes_raise _ _ _) <| .after (changes_enterStage _ _ _) <| .after (changes_onHold _ id) <|
    .after (changes_onWatches _ _) <| .after (changes_onEval _ fun _ => inOrder_start _ _) <|
    .after (changes_onStrain _ _) <| .after (changes_onForce _ _) <|
    .after (changes_foldl _ (fun _ _ => changes_raise _ _ _) _) <|
    .after (.single (.started x _ _ _ ?_ ?_ ?_ rfl)) (changes_settlePast s)
  · rwa [settlePast_frame]
  · rwa [settlePast_recs]
  · rwa [settlePast_recs]

end

end Sys2Proof.Machine
end

section
/-! Every request, every command and every step as a chain of changes. -/

namespace Sys2Proof.Machine

section
variable (s : State)

/-! ### The requests -/

/-- A frame that moves between states outside a test, and is not UNDEFINED before. -/
theorem changes_outside {g : Frame → Frame} (h : s.inTest = false) (hu : s.frame.state ≠ .undefined)
    (hg : (g s.frame).state.inTest = false) (hstatus : (g s.frame).status = s.frame.status)
    (hdefn : (g s.frame).defn = s.frame.defn)
    (hmove : (g s.frame).move.isSome = true →
      (g s.frame).state = .moving ∨ (g s.frame).state = .returning ∨ s.frame.state ≠ .moving ∧ s.frame.state ≠ .returning ∧
        (g s.frame).move = s.frame.move) :
    s.Changes (s.onFrame g) := by
  refine .single (.outside (g s.frame) h hg hstatus hdefn fun ho => ⟨fun hopen => ?_, fun hm => ?_⟩)
  · exact absurd (ho.opened (hstatus ▸ hopen)) hu
  · obtain hmoving | hreturning | ⟨hm', hr', heq⟩ := hmove hm
    · exact .inl hmoving
    · exact .inr hreturning
    · rcases ho.moves (heq ▸ hm) with h | h
      · exact absurd h hm'
      · exact absurd h hr'

theorem changes_driveBecomesReady (h : s.frame.state = .enabling) : s.Changes s.driveBecomesReady := by
  refine .after (changes_raise _ _ _) (changes_outside s ?_ ?_ rfl rfl rfl fun _ => .inr (.inr ?_)) <;>
    simp [State.inTest, FrameState.inTest, h]

theorem changes_stopCrosshead (h : s.frame.state = .moving ∨ s.frame.state = .returning) :
    s.Changes s.stopCrosshead := by
  refine .after (changes_onServo _ _) (changes_outside s ?_ ?_ rfl rfl rfl nofun) <;>
    rcases h with h | h <;> simp [State.inTest, FrameState.inTest, h]

theorem changes_handleDefineFrame (d : Option RawDefinition) : s.Changes (handleDefineFrame d s).2 := by
  unfold handleDefineFrame
  split
  · exact .refl
  next hc =>
    split
    · exact .refl
    · refine .single (.defined _ ?_)
      cases h : s.frame.status with
      | opened => rfl
      | committed => simp [State.committed, h] at hc

theorem changes_handleCommitFrame : s.Changes (handleCommitFrame s).2 := by
  unfold handleCommitFrame
  split
  · exact .refl
  next hc =>
    split
    · exact .refl
    · dsimp only
      refine .after (changes_onForce _ _) (.single (.committed ?_))
      cases h : s.frame.status with
      | opened => rfl
      | committed => simp [State.committed, h] at hc

theorem changes_setGains (c : Channel) (g : Gains) : s.Changes (s.onFrame (·.setGains c g)) := by
  cases c <;> exact changes_onFrame s rfl rfl rfl id

theorem changes_handleSetLoop (channel : Byte) (kp ki kf : Word32) :
    s.Changes (handleSetLoop channel kp ki kf s).2 := by
  unfold handleSetLoop
  split
  iterate 3 exact .refl
  all_goals
    split
    · exact .refl
    · split
      · exact .refl
      · exact changes_setGains s _ _

theorem changes_handleDriveOn : s.Changes (handleDriveOn s).2 := by
  unfold handleDriveOn
  split
  next h =>
    refine .then_if (changes_outside s ?_ ?_ rfl rfl rfl fun _ => .inr (.inr ?_)) fun _ =>
      changes_driveBecomesReady _ rfl
    all_goals simp [State.inTest, FrameState.inTest, h]
  · exact .refl

/-- The drive is switched off in a state outside a test (R13). -/
theorem changes_driveDisabled (h : s.frame.state = .enabling ∨ s.frame.state = .ready ∨ s.frame.state = .moving ∨
    s.frame.state = .returning) : s.Changes (s.onFrame fun f => { f with state := .driveOff, driveTimer := none, move := none }) := by
  refine changes_outside s ?_ ?_ rfl rfl rfl nofun <;>
    rcases h with h | h | h | h <;> simp [State.inTest, FrameState.inTest, h]

theorem changes_handleDriveOff : s.Changes (handleDriveOff s).2 := by
  unfold handleDriveOff
  split
  iterate 4
    next h => exact changes_driveDisabled s (by simp [h])
  all_goals exact .refl

theorem changes_handleClearFault : s.Changes (handleClearFault s).2 := by
  unfold handleClearFault
  split
  next h =>
    split_ifs
    · exact .refl
    · exact .refl
    · exact .refl
    · dsimp only
      refine changes_outside s ?_ ?_ rfl rfl rfl fun _ => .inr (.inr ?_) <;>
        simp [State.inTest, FrameState.inTest, h]
  · exact .refl

/-- A move starts in READY or MOVING (R19, R20). -/
theorem changes_moveStarted (m : Move) (h : s.frame.state = .ready ∨ s.frame.state = .moving) :
    s.Changes (s.onFrame fun f => { f with state := .moving, move := some m }) := by
  refine changes_outside s ?_ ?_ rfl rfl rfl fun _ => .inl rfl <;>
    rcases h with h | h <;> simp [State.inTest, FrameState.inTest, h]

theorem changes_handleJog (speed : Word32) : s.Changes (handleJog speed s).2 := by
  unfold handleJog
  split
  iterate 2
    next h =>
      by_cases hz : speed.toInt = 0
      · rw [if_pos hz]
        exact .then_if .refl fun hm => changes_stopCrosshead s (.inl hm)
      · rw [if_neg hz]
        exact changes_moveStarted s _ (by simp [h])
  all_goals exact .refl

theorem changes_handleMoveTo (target speed : Word32) : s.Changes (handleMoveTo target speed s).2 := by
  unfold handleMoveTo
  split
  iterate 2
    next h =>
      split_ifs
      · exact .refl
      · exact .refl
      · exact changes_moveStarted s _ (by simp [h])
  all_goals exact .refl

theorem changes_handleStopMove : s.Changes (handleStopMove s).2 := by
  rw [handleStopMove_eq]
  split_ifs
  next h => exact changes_stopCrosshead s h
  all_goals exact .refl

theorem changes_handleSetPosition (value : Word32) : s.Changes (handleSetPosition value s).2 := by
  unfold handleSetPosition
  dsimp only
  split
  all_goals dsimp only
  · exact changes_onFrame s rfl rfl rfl id
  · exact .after (changes_onServo _ _) (changes_onFrame s rfl rfl rfl id)
  all_goals exact .refl

theorem changes_handleSetOverride (percent : BitVec 16) : s.Changes (handleSetOverride percent s).2 := by
  unfold handleSetOverride
  split
  · dsimp only; exact changes_onServo s _
  · exact .refl

theorem changes_handleTare : s.Changes (handleTare s).2 := by
  unfold handleTare
  split
  · exact .refl
  · dsimp only; exact changes_onForce s _

theorem changes_handleSetFilter (n : Byte) : s.Changes (handleSetFilter n s).2 := by
  unfold handleSetFilter
  by_cases hn : n.toNat ∈ [1, 2, 4, 8, 16]
  · rw [if_neg (not_not.2 hn)]
    split_ifs
    · exact .refl
    · dsimp only; exact changes_onForce s _
  · rw [if_pos hn]
    exact .refl

theorem changes_handleZeroExt (gauge : Word32) : s.Changes (handleZeroExt gauge s).2 := by
  unfold handleZeroExt
  split_ifs
  iterate 4 exact .refl
  dsimp only
  exact changes_onStrain s _

theorem changes_handleLoadProgram (slot : Byte) (p : Option RawProgram) :
    s.Changes (handleLoadProgram slot p s).2 := by
  unfold handleLoadProgram
  split_ifs
  · exact .refl
  · exact .refl
  · split
    · exact .refl
    · split
      · exact .refl
      · dsimp only; exact changes_onSeq s rfl

theorem changes_handleAddSpecimen (r : RawSpecimen) : s.Changes (handleAddSpecimen r s).2 := by
  unfold handleAddSpecimen
  split
  · exact .refl
  · dsimp only
    split_ifs
    · exact .refl
    · exact .refl
    next hid hl => dsimp only; exact .single (.queued _ (by simpa using hid) (by omega))

theorem changes_handleDropSpecimen (id : RawId) : s.Changes (handleDropSpecimen id s).2 := by
  unfold handleDropSpecimen
  split_ifs
  · exact .refl
  · dsimp only; exact changes_onRecs s List.eraseP_sublist rfl (.refl _)
  · exact .refl

theorem changes_handleReadQueue (first : Byte) : s.Changes (handleReadQueue first s).2 := by
  unfold handleReadQueue
  split_ifs <;> exact .refl

theorem changes_handleTestStart : s.Changes (handleTestStart s).2 := by
  unfold handleTestStart
  split
  · exact .refl
  next h =>
    obtain ⟨hr, hq, hl⟩ := startCheck_passed s h
    exact changes_startTest s _ _ hr hq hl

theorem changes_handleAbortTest : s.Changes (handleAbortTest s).2 := by
  unfold handleAbortTest
  split
  next h => exact changes_endTest s _ (by simp [State.inTest, FrameState.inTest, h]) nofun
  next h => exact changes_endTest s _ (by simp [State.inTest, FrameState.inTest, h]) nofun
  next h => exact changes_stopCrosshead s (.inr h)
  all_goals exact .refl

theorem changes_handleHoldTest : s.Changes (handleHoldTest s).2 := by
  unfold handleHoldTest
  split
  · exact changes_setHold s _
  · exact .refl

/-- The empty set has no cause to lose. -/
theorem remove_ne_empty (c : HoldCauses) (causes : Byte) (h : c.remove causes ≠ .empty) : c ≠ .empty := by
  rintro rfl
  exact h rfl

theorem changes_handleClearHold (causes : Byte) : s.Changes (handleClearHold causes s).2 := by
  unfold handleClearHold
  split_ifs
  · exact .refl
  · dsimp only; exact changes_onHold s (remove_ne_empty _ _)
  · exact .refl

theorem changes_handleResumeTest : s.Changes (handleResumeTest s).2 := by
  unfold handleResumeTest
  split
  next h =>
    split
    next hc =>
      dsimp only
      refine .after (changes_onSeq _ rfl) (.then_if (.single (.resumed h hc)) fun _ => changes_onServo _ _)
    · exact .refl
  · exact .refl

theorem changes_handleSetWatch (index : Byte) (w : RawWatch) : s.Changes (handleSetWatch index w s).2 := by
  unfold handleSetWatch
  split
  · split
    · exact .refl
    · split
      · exact .refl
      · dsimp only; exact changes_onWatches s _
  · exact .refl

@[simp] theorem handleReadResult_state (id : Option RawId) : (handleReadResult id s).2 = s := by
  unfold handleReadResult
  split
  · rfl
  · split
    · rfl
    · split
      · rfl
      · split <;> rfl

theorem changes_handleDeleteResult (id : RawId) : s.Changes (handleDeleteResult id s).2 := by
  unfold handleDeleteResult
  split_ifs
  · exact .refl
  · exact .refl
  · dsimp only; exact changes_onRecs s (.refl _) rfl List.eraseP_sublist
  · exact .refl

theorem changes_handleSetReporting (kinds : Word32) : s.Changes (handleSetReporting kinds s).2 := by
  unfold handleSetReporting
  split_ifs
  · exact .refl
  · dsimp only; exact changes_onEvents s rfl

theorem changes_handleSetSeverity (kind severity : Byte) : s.Changes (handleSetSeverity kind severity s).2 := by
  unfold handleSetSeverity
  split
  · exact .refl
  · split
    · exact .refl
    · dsimp only; exact changes_onEvents s rfl

theorem changes_handleClearEvents (kinds : Word32) : s.Changes (handleClearEvents kinds s).2 := by
  unfold handleClearEvents
  split_ifs
  · exact .refl
  · exact changes_clearKinds s _

theorem changes_handleInjectEvent (kind : Byte) : s.Changes (handleInjectEvent kind s).2 := by
  unfold handleInjectEvent
  split
  · exact .refl
  · exact changes_raise s _ _

theorem changes_handleSetStream (period : BitVec 16) (idle : Byte) : s.Changes (handleSetStream period idle s).2 := by
  unfold handleSetStream
  split
  · exact .refl
  · dsimp only; exact changes_onStream s _

@[simp] theorem handleGetStatus_state (group : Byte) : (handleGetStatus group s).2 = s := by
  unfold handleGetStatus; split <;> rfl

/-- What the block of a request does. -/
theorem changes_perform (r : Request) : s.Changes (perform r s).2 := by
  cases r with
  | defineFrame d => exact changes_handleDefineFrame s d
  | commitFrame => exact changes_handleCommitFrame s
  | setLoop channel kp ki kf => exact changes_handleSetLoop s channel kp ki kf
  | driveOn => exact changes_handleDriveOn s
  | driveOff => exact changes_handleDriveOff s
  | clearFault => exact changes_handleClearFault s
  | jog speed => exact changes_handleJog s speed
  | moveTo target speed => exact changes_handleMoveTo s target speed
  | stopMove => exact changes_handleStopMove s
  | setPosition value => exact changes_handleSetPosition s value
  | setOverride percent => exact changes_handleSetOverride s percent
  | tare => exact changes_handleTare s
  | setFilter n => exact changes_handleSetFilter s n
  | zeroExt gauge => exact changes_handleZeroExt s gauge
  | loadProgram slot p => exact changes_handleLoadProgram s slot p
  | addSpecimen r => exact changes_handleAddSpecimen s r
  | dropSpecimen id => exact changes_handleDropSpecimen s id
  | readQueue first => exact changes_handleReadQueue s first
  | testStart => exact changes_handleTestStart s
  | abortTest => exact changes_handleAbortTest s
  | holdTest => exact changes_handleHoldTest s
  | clearHold causes => exact changes_handleClearHold s causes
  | resumeTest => exact changes_handleResumeTest s
  | setWatch index w => exact changes_handleSetWatch s index w
  | readResult id => rw [perform, handleReadResult_state]; exact .refl
  | deleteResult id => exact changes_handleDeleteResult s id
  | setReporting kinds => exact changes_handleSetReporting s kinds
  | setSeverity kind severity => exact changes_handleSetSeverity s kind severity
  | readEvents => exact .refl
  | clearEvents kinds => exact changes_handleClearEvents s kinds
  | injectEvent kind => exact changes_handleInjectEvent s kind
  | setStream period idle => exact changes_handleSetStream s period idle
  | streamOn => dsimp only [perform, handleStreamOn]; exact changes_onStream s _
  | streamOff => dsimp only [perform, handleStreamOff]; exact changes_onStream s _
  | getStatus group => rw [perform, handleGetStatus_state]; exact .refl
  | describe => exact .refl
  | reset => exact changes_resetModule s

/-! ### The link -/

theorem changes_performFrame (f : RequestFrame) : s.Changes (performFrame f s).2 := by
  unfold performFrame
  split
  · exact changes_perform s _
  · exact .refl
  · exact .refl

@[simp] theorem performFrame_link_replies (f : RequestFrame) :
    (performFrame f s).2.link.replies = s.link.replies := by
  unfold performFrame
  split
  · exact perform_link_replies s _
  · rfl
  · rfl

/-- A frame is placed in a free slot. -/
theorem changes_placed (f : RequestFrame) (h : s.link.slots.length < 2) : s.Changes (s.placed f) := by
  refine .single (.alike (.of_link (.refl _) (fun _ => ?_) id id))
  simpa using by omega

/-- A reply takes a free place, and its request leaves its slot. -/
theorem changes_answered (f : RequestFrame) (r : Reply × State) (h : r.2.link.replies.length < 2) :
    State.Changes r.2 (answered f r) := by
  refine .single (.alike (.of_link (.refl _) (fun h => ?_) (fun _ => ?_) id))
  · simpa using by omega
  · simpa using by omega

theorem changes_executeOldest (h : s.link.replies.length < 2) : s.Changes s.executeOldest := by
  unfold State.executeOldest
  split
  · exact .refl
  next f _ _ => exact .after (changes_answered f _ (by simpa using h)) (changes_performFrame s f)

theorem changes_service (n : Nat) : s.Changes (State.service n s) := by
  induction n generalizing s with
  | zero => exact changes_transmit s
  | succ n ih =>
    exact .then_if (changes_transmit s) fun h => .after (ih _) (changes_executeOldest _ h.2)

theorem changes_hunting : s.Changes (s.onLink (·.hunting)) := .single (.alike (.of_link (.refl _) id id id))

theorem changes_assembling (bytes : List Byte) : s.Changes (s.onLink (·.assembling bytes)) :=
  .single (.alike (.of_link (.refl _) id id id))

theorem changes_discard (reason : Nat) : s.Changes (s.discard reason) :=
  (changes_hunting s).trans (changes_raise _ _ _)

theorem changes_takeHostByte (b : Byte) : s.Changes (s.takeHostByte b).1 := by
  unfold State.takeHostByte
  split
  · exact .then_if .refl fun _ => changes_assembling _ _
  · dsimp only
    split
    · exact changes_assembling s _
    · exact changes_discard s _
    · split
      next h => exact .after (changes_service _ _) (.after (changes_placed _ _ h) (changes_hunting s))
      · exact changes_discard s _

theorem changes_feed (n : Nat) (bytes : List Byte) : s.Changes (s.feed n bytes) := by
  induction n generalizing s bytes with
  | zero => exact .refl
  | succ n ih =>
    cases bytes with
    | nil => exact .refl
    | cons b rest => exact (changes_takeHostByte s b).trans (ih _ _)

theorem changes_overflow (f : RequestFrame) : s.Changes (s.overflow f) := by
  refine .after (changes_ite _ (fun _ => ?_) fun _ => changes_transmit _) (changes_raise s .linkRxError 4)
  exact (changes_feed _ _ _).trans (changes_transmit _)

theorem changes_arrive (f : RequestFrame) : s.Changes (s.arrive f) :=
  changes_ite _ (fun h => (changes_placed s f h).trans (changes_service _ _)) fun _ => changes_overflow s f

/-! ### The commands -/

/-- Every next state that an outcome gives is reached by a chain of changes. -/
def ChangesTo (o : Host.Outcome State Fault Refusal) : Prop := ∀ t, o = .next t → s.Changes t

variable {s}

theorem changesTo_next {t : State} (h : s.Changes t) : ChangesTo s (.next t) := by
  rintro _ ⟨⟩
  exact h

theorem changesTo_done {t : State} (h : s.Changes t) : ChangesTo s t.done :=
  changesTo_next (h.trans (changes_transmit t))

/-- A request command: its block's changes where its frame is executed at once, its arrival otherwise. -/
theorem changesTo_request {f : RequestFrame} {g : State → Reply × State} (hg : ∀ u, State.Changes u (g u).2)
    (hl : ∀ u, (g u).2.link.replies = u.link.replies) : ChangesTo s (s.request f g) := by
  unfold State.request
  split
  next h =>
    refine changesTo_done (.after (changes_answered _ _ ?_) (.after (hg _) (changes_placed s f (by simp [h.1]))))
    rw [hl]
    exact h.2
  · exact changesTo_next (changes_arrive s f)

theorem changesTo_perform {f : RequestFrame} (r : Request) : ChangesTo s (s.request f (perform r)) :=
  changesTo_request (changes_perform · r) (perform_link_replies · r)

variable (s)

theorem changesTo_driveReadyCeases (cause : DriveCease) : ChangesTo s (execDriveReadyCeases cause s) := by
  refine changesTo_done ?_
  split
  iterate 5 exact .after (changes_raise _ _ _) (changes_onInputs s _)
  all_goals exact changes_onInputs s _

theorem changesTo_settleTimerExpiry : ChangesTo s (execSettleTimerExpiry s) := by
  refine changesTo_done ?_
  split
  next m hm =>
    split
    · exact .after (changes_raise _ _ _) (.single (.moveEnded (by simp [hm])))
    · exact .refl
  · exact .refl

theorem changesTo_removalTriggerTestPoint : ChangesTo s (execRemovalTriggerTestPoint s) := by
  refine changesTo_done ?_
  split
  · exact .refl
  · dsimp only
    split
    · exact .then_if (changes_onPoints s _) fun _ => changes_removalTrigger _
    · exact changes_onPoints s _

theorem changesTo_extByte (b : Byte) : ChangesTo s (execExtByte b s) := by
  refine changesTo_done ?_
  split
  · exact .refl
  · exact changes_onExt_of_fifo s (by simp)
  · exact changes_ite _ (fun _ => changes_onExt_of_fifo s rfl) fun _ => changes_onExt_of_fifo s (by simp)
  · exact changes_onExt_of_fifo s (by simp)
  · exact changes_confirmByte s b
  · exact changes_lockedByte s b

theorem changesTo_extByteTimerExpiry : ChangesTo s (execExtByteTimerExpiry s) := by
  refine changesTo_done ?_
  split
  iterate 2 exact .refl
  iterate 3 exact changes_onExt_of_fifo s rfl
  exact .after (changes_send _ _) (changes_onExt_of_fifo s rfl)

theorem changesTo_stageTimerExpiry : ChangesTo s (execStageTimerExpiry s) := by
  refine changesTo_done ?_
  split
  · exact changes_onSeq s rfl
  · exact .refl
  · exact .refl

theorem changesTo_removalTimerExpiry : ChangesTo s (execRemovalTimerExpiry s) :=
  changesTo_done <| .then_if .refl fun _ =>
    .then_if (.after (changes_raise _ _ _) (changes_onStrain s _)) fun _ => changes_setHold _ _

theorem changesTo_rxByteTimerExpiry : ChangesTo s (execRxByteTimerExpiry s) := by
  refine changesTo_done ?_
  split
  · exact .after (changes_feed _ _ _) (changes_discard s _)
  · exact .refl

/-- Every command but POWER_ON is a chain of changes. -/
theorem changesTo_exec (c : Instr) (hc : ∀ levels, c ≠ .powerOn levels) : ChangesTo s (exec c s) := by
  cases c with
  | powerOn levels => exact absurd rfl (hc levels)
  | servoUpdate encoder still =>
    exact changesTo_done <| .after (changes_servoStep _) <| .after (changes_onInputs _ _) <|
      .after (changes_onFrame _ rfl rfl rfl id) (changes_tick s)
  | conversion raw =>
    exact changesTo_done <| .after (changes_checkBreak _) <| .after (changes_checkForceLimit _) <|
      .after (changes_checkOverload _) <| .after (changes_onForce _ _) <| .after (changes_checkOverRange _ _)
      (changes_onForce s _)
  | defineFrame tag d => exact changesTo_perform (.defineFrame (if d.agrees then some d else none))
  | commitFrame tag => exact changesTo_perform .commitFrame
  | setLoop tag channel kp ki kf => exact changesTo_perform (.setLoop channel kp ki kf)
  | driveOn tag => exact changesTo_perform .driveOn
  | driveOff tag => exact changesTo_perform .driveOff
  | clearFault tag => exact changesTo_perform .clearFault
  | jog tag speed => exact changesTo_perform (.jog speed)
  | moveTo tag target speed => exact changesTo_perform (.moveTo target speed)
  | stopMove tag => exact changesTo_perform .stopMove
  | setPosition tag value => exact changesTo_perform (.setPosition value)
  | setOverride tag percent => exact changesTo_perform (.setOverride percent)
  | tare tag => exact changesTo_perform .tare
  | setFilter tag n => exact changesTo_perform (.setFilter n)
  | zeroExt tag gauge => exact changesTo_perform (.zeroExt gauge)
  | loadProgram tag slot p => exact changesTo_perform (.loadProgram slot (if p.agrees then some p else none))
  | addSpecimen tag r => exact changesTo_perform (.addSpecimen r)
  | dropSpecimen tag id => exact changesTo_perform (.dropSpecimen id)
  | readQueue tag first => exact changesTo_perform (.readQueue first)
  | testStart tag => exact changesTo_perform .testStart
  | abortTest tag => exact changesTo_perform .abortTest
  | holdTest tag => exact changesTo_perform .holdTest
  | clearHold tag causes => exact changesTo_perform (.clearHold causes)
  | resumeTest tag => exact changesTo_perform .resumeTest
  | setWatch tag index w => exact changesTo_perform (.setWatch index w)
  | readResult tag id => exact changesTo_perform (.readResult id)
  | deleteResult tag id => exact changesTo_perform (.deleteResult id)
  | setReporting tag kinds => exact changesTo_perform (.setReporting kinds)
  | setSeverity tag kind severity => exact changesTo_perform (.setSeverity kind severity)
  | readEvents tag => exact changesTo_perform .readEvents
  | clearEvents tag kinds => exact changesTo_perform (.clearEvents kinds)
  | injectEvent tag kind => exact changesTo_perform (.injectEvent kind)
  | setStream tag period idle => exact changesTo_perform (.setStream period idle)
  | streamOn tag => exact changesTo_perform .streamOn
  | streamOff tag => exact changesTo_perform .streamOff
  | getStatus tag group => exact changesTo_perform (.getStatus group)
  | describe tag => exact changesTo_perform .describe
  | reset tag => exact changesTo_perform .reset
  | unknownKind kind tag body =>
    exact changesTo_request (changes_performFrame · _) (performFrame_link_replies · _)
  | driveReadySeen =>
    exact changesTo_done <| .after (.then_if .refl (changes_driveBecomesReady _)) (changes_onInputs s _)
  | driveReadyCeases cause => exact changesTo_driveReadyCeases s cause
  | driveEnableTimerExpiry => exact changesTo_done <| .then_if .refl fun _ => changes_raise _ _ _
  | cabinetInputAsserted input =>
    exact changesTo_done <| changes_ite _ (fun _ => .refl) fun _ =>
      .after (changes_raise _ _ _) (changes_onInputs s _)
  | cabinetInputReleased input => exact changesTo_done (changes_onInputs s _)
  | settleTimerExpiry => exact changesTo_settleTimerExpiry s
  | stageTimerExpiry => exact changesTo_stageTimerExpiry s
  | sequencerTestPoint =>
    refine changesTo_done ?_
    split
    · exact .refl
    · exact .after (changes_sequencerPoint _ _) (changes_onPoints s _)
  | watchTestPoint =>
    refine changesTo_done ?_
    split
    · exact .refl
    · exact .after (changes_watchPoint _ _) (changes_onPoints s _)
  | evaluationTestPoint =>
    refine changesTo_done ?_
    split
    · exact .refl
    · exact .after (changes_evaluationPoint _ _) (changes_onPoints s _)
  | removalTriggerTestPoint => exact changesTo_removalTriggerTestPoint s
  | yieldNotice => exact changesTo_done <| .then_if (changes_taken s _) fun _ => changes_onSeq _ rfl
  | fmaxPassedNotice => exact changesTo_done <| .then_if (changes_taken s _) fun _ => changes_onSeq _ rfl
  | neckingNotice => exact changesTo_done <| .then_if (changes_taken s _) fun _ => changes_removalTrigger _
  | namedStageNotice => exact changesTo_done <| (changes_taken s _).trans (changes_removalTrigger _)
  | watchRemovalTrigger => exact changesTo_done <| (changes_taken s _).trans (changes_removalTrigger _)
  | nextStage => exact changesTo_done (changes_takeNextStage s _)
  | breakDetectionTestEnd => exact changesTo_done <| (changes_taken s _).trans (changes_clearBreak _)
  | strainSourceTestEnd => exact changesTo_done <| (changes_taken s _).trans (changes_strainTestEnd _)
  | extByte b => exact changesTo_extByte s b
  | extByteTimerExpiry => exact changesTo_extByteTimerExpiry s
  | presenceDeasserted =>
    exact changesTo_done <| .after (changes_strainPresenceLost _) <| .after (changes_onMail _ _) <|
      .after (changes_onExt _ fun _ => Nat.zero_le _) (changes_onInputs s _)
  | presenceAsserted =>
    exact changesTo_done <| .after (.then_if .refl fun _ => changes_onExt_of_fifo _ rfl) (changes_onInputs s _)
  | receiverEntersLocked => exact changesTo_done <| .then_if (changes_taken s _) fun _ => changes_onStrain _ _
  | receiverLeavesLocked => exact changesTo_done <| .then_if (changes_taken s _) fun _ => changes_onStrain _ _
  | retractedInputRises =>
    exact changesTo_done <| .after (.then_if .refl fun _ => .after (changes_raise _ _ _) (changes_onStrain _ _)) <|
      .after (changes_onInputs _ _) (changes_settleStrain s)
  | removalTimerExpiry => exact changesTo_removalTimerExpiry s
  | eventOccurrence kind detail => exact changesTo_done (changes_raise s _ _)
  | hostByte b => exact changesTo_done (changes_feed s _ _)
  | rxByteTimerExpiry => exact changesTo_rxByteTimerExpiry s
  | hostReadyChange level => exact changesTo_next <| (changes_onInputs s _).trans (changes_service _ _)
  | transmitFrameEnd =>
    exact changesTo_next <| .after (changes_service _ _) (.single (.alike (.of_link (.refl _) id id id)))
  | streamPeriodExpiry => exact changesTo_done <| .then_if .refl fun _ => changes_streamExpiry s

/-- What a step can do: POWER_ON starts from the power-on state, and every other step is a chain of changes. -/
theorem step_cases {t : State} (h : step s = .next t) :
    (∃ levels rest, s.pending.head? = some (.powerOn levels) ∧ (State.atPowerOn levels rest).Changes t) ∨
      (∀ levels, s.pending.head? ≠ some (.powerOn levels)) ∧ s.Changes t := by
  unfold step at h
  split at h
  next hp =>
    cases h
    exact .inr ⟨by simp [hp], .refl⟩
  next c rest hp =>
    by_cases hc : ∃ levels, c = .powerOn levels
    · obtain ⟨levels, rfl⟩ := hc
      refine .inl ⟨levels, rest, by simp [hp], ?_⟩
      exact changesTo_done (changes_raiseCabinet _) t h
    · refine .inr ⟨fun levels => by simpa [hp] using fun hl => hc ⟨levels, hl⟩, ?_⟩
      exact .after (changesTo_exec _ c (fun levels hl => hc ⟨levels, hl⟩) t h)
        (.of_blocks rfl rfl rfl rfl rfl rfl rfl rfl)

/-- What holds at power-on and is kept by every change is kept by every step. -/
theorem step_keeps {P : State → Prop} (start : ∀ levels rest, P (State.atPowerOn levels rest))
    (keeps : ∀ {s t}, Change s t → P s → P t) {t : State} (hs : P s) (h : step s = .next t) : P t := by
  rcases step_cases s h with ⟨levels, rest, _, hc⟩ | ⟨_, hc⟩
  · exact hc.keeps keeps (start levels rest)
  · exact hc.keeps keeps hs

end

end Sys2Proof.Machine
end

section
/-! The invariants of the step: each change keeps each of them, and power-on starts with them. -/

namespace Sys2Proof.Machine

section
variable {s t : State}

/-! ### The outcome of a fault -/

/-- A fault of the frame does nothing in UNDEFINED, faults the frame outside a test, and ends a test in progress (R14, R183). -/
theorem frameFault_cases (k : EventKind) (d : Word32) :
    s.frameFault k d = s ∨
    s.inTest = false ∧ s.frame.state ≠ .undefined ∧ s.frameFault k d = s.onFrame (·.enterFault k d s.clock) ∨
    s.inTest = true ∧ s.frameFault k d = (s.onFrame (·.enterFault k d s.clock)).endTest .frameFault k.code.val := by
  unfold State.frameFault
  split
  · exact .inl rfl
  next hu =>
    cases h : s.inTest with
    | false => exact .inr (.inl ⟨rfl, hu, by simp⟩)
    | true => exact .inr (.inr ⟨rfl, by simp⟩)

/-! ### The frame -/

theorem State.FrameInOrder.congr (hs : s.FrameInOrder) (h : t.frame = s.frame) : t.FrameInOrder :=
  ⟨by simpa [h] using hs.opened, by simpa [h] using hs.moves⟩

/-- A frame that is neither UNDEFINED nor moving is committed and has no move record. -/
theorem State.FrameInOrder.still (hs : s.FrameInOrder) (hu : s.frame.state ≠ .undefined) (hm : s.frame.state ≠ .moving)
    (hr : s.frame.state ≠ .returning) : s.frame.status ≠ .opened ∧ s.frame.move.isSome ≠ true :=
  ⟨fun h => hu (hs.opened h), fun h => (hs.moves h).elim hm hr⟩

/-- A committed frame without a move record is in order in every state. -/
theorem State.FrameInOrder.of_still (h : t.frame.status ≠ .opened ∧ t.frame.move.isSome ≠ true) : t.FrameInOrder :=
  ⟨fun hs => absurd hs h.1, fun hm => absurd hm h.2⟩

/-- The frame of a test in progress is committed and has no move record. -/
theorem State.FrameInOrder.still_of_inTest (hs : s.FrameInOrder) (h : s.inTest = true) :
    s.frame.status ≠ .opened ∧ s.frame.move.isSome ≠ true := by
  rcases (inTest_iff s).1 h with h | h <;> exact hs.still (by simp [h]) (by simp [h]) (by simp [h])

/-- The end of a test leaves a committed frame without a move record in order. -/
theorem frameInOrder_endTest (o : TestOutcome) (n : Nat) (h : s.frame.status ≠ .opened ∧ s.frame.move.isSome ≠ true) :
    (s.endTest o n).FrameInOrder := by
  obtain ⟨hopen, hmove⟩ := h
  constructor <;> rw [endTest_frame] <;> unfold Frame.afterTest <;> split <;> try split
  all_goals simp_all

theorem frameInOrder_frameFault (k : EventKind) (d : Word32) (h : s.FrameInOrder) : (s.frameFault k d).FrameInOrder := by
  obtain heq | ⟨_, hu, heq⟩ | ⟨ht, heq⟩ := frameFault_cases (s := s) k d <;> rw [heq]
  · exact h
  · exact .of_still ⟨fun hopen => hu (h.opened hopen), by simp [Frame.enterFault]⟩
  · exact frameInOrder_endTest _ _ ⟨(h.still_of_inTest ht).1, by simp [Frame.enterFault]⟩

/-- Every change keeps the frame's order. -/
theorem Change.frameInOrder (c : Change s t) (h : s.FrameInOrder) : t.FrameInOrder := by
  cases c with
  | alike ha =>
    exact ⟨fun hopen => ha.state ▸ h.opened (ha.status ▸ hopen), fun hm => ha.state ▸ h.moves (ha.move hm)⟩
  | defined d _ => exact ⟨h.opened, h.moves⟩
  | committed hopen =>
    have hu := h.opened hopen
    exact .of_still ⟨nofun, fun hm => by simpa [hu] using h.moves hm⟩
  | outside f _ _ _ _ hf => exact hf h
  | moveEnded hm =>
    refine .of_still ⟨fun hopen => ?_, nofun⟩
    simpa [h.opened hopen] using h.moves hm
  | held c n hs => exact .of_still (h.still_of_inTest ((inTest_iff s).2 (.inl hs)))
  | resumed hs _ => exact .of_still (h.still_of_inTest ((inTest_iff s).2 (.inr hs)))
  | started x time v q hs _ _ _ => exact .of_still (h.still (by simp [hs]) (by simp [hs]) (by simp [hs]))
  | ended o n ht _ => exact frameInOrder_endTest o n (h.still_of_inTest ht)
  | faulted k d => exact frameInOrder_frameFault k d h
  | recorded k d c => exact h.congr (record_frame ..)
  | joined _ _ | evaluated _ _ | queued _ _ _ | cleared _ => exact h.congr rfl

/-! ### The hold causes -/

theorem Change.holdInOrder (c : Change s t) (h : s.HoldInOrder) : t.HoldInOrder := by
  refine ⟨c.frameInOrder h.frame, ?_⟩
  cases c with
  | alike ha => exact fun hc => ha.state ▸ h.held (ha.causes hc)
  | committed hopen => exact fun hc => by simpa [h.frame.opened hopen] using h.held hc
  | outside f ht _ _ _ _ => exact fun hc => by simp [State.inTest, h.held hc, FrameState.inTest] at ht
  | moveEnded hm => exact fun hc => by simpa [h.held hc] using h.frame.moves hm
  | held c n _ => exact fun _ => rfl
  | joined c hs => exact fun _ => hs
  | resumed _ hc => exact fun hc' => absurd hc hc'
  | started x time v q hs _ _ _ => exact fun hc => by simpa [hs] using h.held hc
  | ended o n _ _ => exact fun hc => absurd (by simp) hc
  | faulted k d =>
    obtain heq | ⟨ht, _, heq⟩ | ⟨_, heq⟩ := frameFault_cases (s := s) k d <;> rw [heq]
    · exact h.held
    · exact fun hc => by simp [State.inTest, h.held hc, FrameState.inTest] at ht
    · exact fun hc => absurd (by simp) hc
  | recorded k d c => simpa using h.held
  | defined _ _ | evaluated _ _ | queued _ _ _ | cleared _ => exact h.held

/-! ### The capacities -/

/-- The end of a test leaves the lengths of every queue but the results alone. -/
theorem withinCapacity_endTest (o : TestOutcome) (n : Nat) (h : s.WithinCapacity) : (s.endTest o n).WithinCapacity := by
  constructor <;> simp [h.slots, h.replies, h.stream, h.samples, h.specimens]

theorem Change.withinCapacity (c : Change s t) (h : s.WithinCapacity) : t.WithinCapacity := by
  cases c with
  | alike ha =>
    exact ⟨ha.slots h.slots, ha.replies h.replies, ha.stream h.stream, ha.samples h.samples,
      ha.queue.length_le.trans h.specimens⟩
  | queued x _ hq => exact ⟨h.slots, h.replies, h.stream, h.samples, by simpa using hq⟩
  | started x time v q _ _ _ _ =>
    exact ⟨h.slots, h.replies, h.stream, h.samples, (List.tail_sublist _).length_le.trans h.specimens⟩
  | ended o n _ _ => exact withinCapacity_endTest o n h
  | faulted k d =>
    obtain heq | ⟨_, _, heq⟩ | ⟨_, heq⟩ := frameFault_cases (s := s) k d <;> rw [heq]
    · exact h
    · exact ⟨h.slots, h.replies, h.stream, h.samples, h.specimens⟩
    · exact withinCapacity_endTest _ _ ⟨h.slots, h.replies, h.stream, h.samples, h.specimens⟩
  | recorded k d c => constructor <;> simp [h.slots, h.replies, h.stream, h.samples, h.specimens]
  | defined _ _ | committed _ | outside _ _ _ _ _ _ | moveEnded _ | held _ _ _ | joined _ _ | resumed _ _ | evaluated _ _
  | cleared _ => exact ⟨h.slots, h.replies, h.stream, h.samples, h.specimens⟩

/-! ### The yield values -/

theorem inOrder_endTest (o : TestOutcome) (n : Nat) (h : s.eval.InOrder) : (s.endTest o n).eval.InOrder := by
  rw [endTest_eval]
  exact ⟨nofun, h.lower, h.offset⟩

theorem Change.yieldsInOrder (c : Change s t) (h : s.eval.InOrder) : t.eval.InOrder := by
  cases c with
  | alike ha => exact ha.eval ▸ h
  | evaluated e he => exact he h
  | ended o n _ _ => exact inOrder_endTest o n h
  | faulted k d =>
    obtain heq | ⟨_, _, heq⟩ | ⟨_, heq⟩ := frameFault_cases (s := s) k d <;> rw [heq]
    · exact h
    · exact h
    · exact inOrder_endTest _ _ h
  | recorded k d c => simpa using h
  | defined _ _ | committed _ | outside _ _ _ _ _ _ | moveEnded _ | held _ _ _ | joined _ _ | resumed _ _ | queued _ _ _
  | started _ _ _ _ _ _ _ _ | cleared _ => exact h

/-! ### The event table -/

theorem State.EventsInOrder.congr (h : s.EventsInOrder) (hrecords : t.events.records = s.events.records)
    (hframes : t.link.eventQueue.Sublist s.link.eventQueue) : t.EventsInOrder := by
  have hrec : ∀ k, t.events.record k = s.events.record k := fun k => by simp [Events.record, hrecords]
  exact ⟨h.once.sublist hframes, fun k hk => hrec k ▸ h.pending k (hframes.subset hk),
    fun k r hr => h.counts k r (hrec k ▸ hr)⟩

theorem eventsInOrder_record (k : EventKind) (d : Word32) (c : EventClass) (h : s.EventsInOrder) :
    (s.record k d c).EventsInOrder := by
  rw [record_eq]
  split
  next r hr =>
    refine ⟨h.once, fun j hj => ?_, fun j x hx => ?_⟩
    · by_cases hjk : j = k
      · simp [hjk]
      · simpa [hjk] using h.pending j hj
    · by_cases hjk : j = k
      · have := h.counts k r hr
        simp only [hjk, Events.record_put, if_pos, Option.some.injEq] at hx
        subst hx
        simp only [saturate]
        omega
      · exact h.counts j x (by simpa [hjk] using hx)
  next hnone =>
    have hk : k ∉ s.link.eventQueue := fun hk => by simpa [hnone] using h.pending k hk
    refine ⟨?_, fun j hj => ?_, fun j x hx => ?_⟩
    · dsimp only
      split
      · simpa [List.nodup_append, h.once] using fun j hj (hjk : j = k) => hk (hjk ▸ hj)
      · exact h.once
    · by_cases hjk : j = k
      · simp [hjk]
      · have : j ∈ s.link.eventQueue := by
          dsimp only at hj
          split at hj <;> simpa [hjk] using hj
        simpa [hjk] using h.pending j this
    · by_cases hjk : j = k
      · simp only [hjk, Events.record_put, if_pos, Option.some.injEq] at hx
        subst hx
        simp
      · exact h.counts j x (by simpa [hjk] using hx)

/-- The state of the end of a test once TEST_ENDED and RESULT_READY are recorded. -/
def State.endRecorded (s : State) (o : TestOutcome) (n : Nat) : State :=
  ((s.closeResult o n).record .testEnded (BitVec.ofNat 32 o.code) .info).record .resultReady
    (BitVec.ofNat 32 (s.closeResult o n).recs.results.length) .info

theorem endTest_events (o : TestOutcome) (n : Nat) : (s.endTest o n).events = (s.endRecorded o n).events := by
  simp only [State.endTest, State.endRecorded, send_eq, onMail_events, onServo_events, onSeq_events, onFrame_events,
    onHold_events, record_recs]

theorem endTest_link (o : TestOutcome) (n : Nat) : (s.endTest o n).link = (s.endRecorded o n).link := by
  simp only [State.endTest, State.endRecorded, send_eq, onMail_link, onServo_link, onSeq_link, onFrame_link,
    onHold_link, record_recs]

theorem eventsInOrder_endTest (o : TestOutcome) (n : Nat) (h : s.EventsInOrder) : (s.endTest o n).EventsInOrder := by
  have hclosed : (s.closeResult o n).EventsInOrder := h.congr rfl (.refl _)
  have hrecorded : (s.endRecorded o n).EventsInOrder :=
    eventsInOrder_record _ _ _ (eventsInOrder_record _ _ _ hclosed)
  exact hrecorded.congr (by rw [endTest_events]) (by rw [endTest_link])

/-- Clearing takes out the records of the kinds of a list that are named. -/
theorem record_foldl_clear (kinds : Word32) (ks : List EventKind) (e : Events) (j : EventKind) :
    (ks.foldl (fun t k => if k.inSet kinds then t.put k none else t) e).record j =
      if j ∈ ks ∧ j.inSet kinds then none else e.record j := by
  induction ks generalizing e with
  | nil => simp
  | cons k ks ih =>
    rw [List.foldl_cons, ih]
    by_cases hj : j = k
    · subst hj
      by_cases hk : j.inSet kinds = true <;> simp [hk]
    · by_cases hk : k.inSet kinds = true <;> simp [hk, hj]

theorem EventKind.mem_all (k : EventKind) : k ∈ EventKind.all := by cases k <;> decide

/-- CLEAR_EVENTS takes out the records of the named kinds (R188). -/
theorem Events.record_clear (e : Events) (kinds : Word32) (j : EventKind) :
    (e.clear kinds).record j = if j.inSet kinds then none else e.record j := by
  rw [Events.clear, record_foldl_clear]
  simp [EventKind.mem_all]

theorem eventsInOrder_clearKinds (kinds : Word32) (h : s.EventsInOrder) : (s.clearKinds kinds).EventsInOrder := by
  have hrec : ∀ k, (s.clearKinds kinds).events.record k = if k.inSet kinds then none else s.events.record k :=
    Events.record_clear s.events kinds
  refine ⟨h.once.sublist List.filter_sublist, fun k hk => ?_, fun k r hr => ?_⟩
  · obtain ⟨hq, hn⟩ : k ∈ s.link.eventQueue ∧ (!k.inSet kinds) = true := List.mem_filter.1 hk
    simpa [hrec, (by simpa using hn : k.inSet kinds = false)] using h.pending k hq
  · rw [hrec] at hr
    split at hr
    · cases hr
    · exact h.counts k r hr

theorem Change.eventsInOrder (c : Change s t) (h : s.EventsInOrder) : t.EventsInOrder := by
  cases c with
  | alike ha => exact h.congr ha.records ha.frames
  | ended o n _ _ => exact eventsInOrder_endTest o n h
  | faulted k d =>
    obtain heq | ⟨_, _, heq⟩ | ⟨_, heq⟩ := frameFault_cases (s := s) k d <;> rw [heq]
    · exact h
    · exact h.congr rfl (.refl _)
    · exact eventsInOrder_endTest _ _ (h.congr rfl (.refl _))
  | recorded k d c => exact eventsInOrder_record k d c h
  | cleared kinds => exact eventsInOrder_clearKinds kinds h
  | defined _ _ | committed _ | outside _ _ _ _ _ _ | moveEnded _ | held _ _ _ | joined _ _ | resumed _ _ | queued _ _ _
  | started _ _ _ _ _ _ _ _ | evaluated _ _ => exact h.congr rfl (.refl _)

/-! ### The records -/

/-- The IDs in use: of the waiting specimens, of the test in progress and of the results. -/
def Records.ids (r : Records) : List (List Byte) :=
  r.queue.map (·.id) ++ r.test.toList.map (·.specimen.id) ++ r.results.map (·.id)

theorem Records.ids_sublist {r r' : Records} (hqueue : r'.queue.Sublist r.queue)
    (htest : r'.test.map (·.specimen) = r.test.map (·.specimen)) (hresults : r'.results.Sublist r.results) :
    r'.ids.Sublist r.ids := by
  have htest' : r'.test.toList.map (·.specimen.id) = r.test.toList.map (·.specimen.id) := by
    have := congrArg (fun x => x.toList.map (·.id)) htest
    simpa [Option.toList_map, Function.comp_def] using this
  exact ((hqueue.map _).append (htest' ▸ .refl _)).append (hresults.map _)

theorem Records.ids_of_holdsId {r : Records} {id : List Byte} (h : r.holdsId id = false) : id ∉ r.ids := by
  intro hid
  have : r.holdsId id = true := by
    cases htest : r.test <;> simp_all [ids, holdsId, eq_comm (a := id)]
  simp [this] at h

/-- The records of a frame that stays in its place, or leaves the test where it was. -/
theorem State.RecordsInOrder.of_frame (h : s.RecordsInOrder) (hf : t.FrameInOrder) (hin : t.inTest = s.inTest)
    (hrecs : t.recs = s.recs) (hrunning : t.seq.running = s.seq.running) : t.RecordsInOrder :=
  ⟨hf, by rw [hrecs, hin, h.test], by rw [hrunning, hin, h.copy], by rw [hrecs, hin]; exact h.room,
    by rw [hrecs]; exact h.ids⟩

/-- The end of a test moves the ID of the test in progress to the results. -/
theorem ids_endTest (o : TestOutcome) (n : Nat) : (s.endTest o n).recs.ids.Perm s.recs.ids := by
  rw [endTest_recs]
  cases ht : s.recs.test with
  | none => simp [Records.ids, ht]
  | some x =>
    simp only [Records.ids, ht, State.resultOf, Option.toList_none, Option.toList_some, Option.map_some, List.map_nil,
      List.map_append, List.map_cons, List.append_nil, List.append_assoc]
    exact List.Perm.append_left _ List.perm_append_comm

/-- The end of a test in progress, the frame then in no test. -/
theorem recordsInOrder_endTest (o : TestOutcome) (n : Nat) (hf : (s.endTest o n).FrameInOrder)
    (hin : (s.endTest o n).inTest = false) (htest : s.recs.test.isSome = true) (hroom : s.recs.results.length < 8)
    (hids : s.recs.ids.Nodup) : (s.endTest o n).RecordsInOrder := by
  obtain ⟨x, hx⟩ := Option.isSome_iff_exists.1 htest
  refine ⟨hf, by simp [hin], by simp [hin, Sequencer.afterTest], ?_, (ids_endTest o n).nodup_iff.2 hids⟩
  simpa [hin, hx] using hroom

/-- The end of a test in progress that leaves the frame in no test. -/
theorem State.RecordsInOrder.endTest (h : s.RecordsInOrder) (ht : s.inTest = true) (o : TestOutcome) (n : Nat)
    (hf : (s.endTest o n).FrameInOrder) (hin : (s.endTest o n).inTest = false) : (s.endTest o n).RecordsInOrder := by
  refine recordsInOrder_endTest o n hf hin (h.test.trans ht) ?_ h.ids
  have := h.room
  rw [ht, if_pos rfl] at this
  omega

theorem Change.recordsInOrder (c : Change s t) (h : s.RecordsInOrder) : t.RecordsInOrder := by
  have hf := c.frameInOrder h.frame
  cases c with
  | alike ha =>
    have hin : t.inTest = s.inTest := by simp [State.inTest, ha.state]
    have htest := congrArg Option.isSome ha.test
    simp only [Option.isSome_map] at htest
    refine ⟨hf, by rw [htest, hin, h.test], by rw [ha.running, hin, h.copy], ?_,
      h.ids.sublist (Records.ids_sublist ha.queue ha.test ha.results)⟩
    rw [hin]
    exact (Nat.add_le_add_right ha.results.length_le _).trans h.room
  | committed hopen =>
    refine h.of_frame hf ?_ rfl rfl
    simp only [State.inTest, onFrame_frame, Frame.commit, h.frame.opened hopen]
    split <;> rfl
  | outside f hout hin _ _ _ => exact h.of_frame hf (hin.trans hout.symm) rfl rfl
  | moveEnded hm =>
    refine h.of_frame hf ?_ rfl rfl
    rcases h.frame.moves hm with hs | hs <;> simp [State.inTest, Frame.endMove, hs, FrameState.inTest]
  | held c n hs => exact h.of_frame hf (by simp [State.inTest, hs, FrameState.inTest]) rfl rfl
  | resumed hs _ => exact h.of_frame hf (by simp [State.inTest, hs, FrameState.inTest]) rfl rfl
  | ended o n ht ho => exact h.endTest ht o n hf (by simpa [State.inTest] using afterTest_inTest _ _ _ _ ho)
  | faulted k d =>
    obtain heq | ⟨ht, _, heq⟩ | ⟨ht, heq⟩ := frameFault_cases (s := s) k d <;> rw [heq] at hf ⊢
    · exact h
    · exact h.of_frame hf (by simp [State.inTest, Frame.enterFault, FrameState.inTest] at ht ⊢; exact ht) rfl rfl
    · have hroom := h.room
      rw [ht, if_pos rfl] at hroom
      exact recordsInOrder_endTest _ _ hf
        (by simp [State.inTest, Frame.afterTest, Frame.enterFault, FrameState.inTest]) (h.test.trans ht)
        (by simpa using by omega) h.ids
  | queued x hid hq =>
    refine ⟨hf, h.test, h.copy, h.room, ?_⟩
    have hperm : (x.id :: s.recs.ids).Perm
        (({ s.recs with queue := s.recs.queue ++ [x] } : Records).ids) := by
      simp only [Records.ids, List.map_append, List.map_cons, List.map_nil, List.append_assoc, List.singleton_append]
      exact List.perm_middle.symm
    exact hperm.nodup_iff.1 (List.nodup_cons.2 ⟨Records.ids_of_holdsId hid, h.ids⟩)
  | started x time v q hs hx hroom hq =>
    obtain ⟨rest, hrest⟩ : ∃ rest, s.recs.queue = x :: rest := List.head?_eq_some_iff.1 hx
    have hnone : s.recs.test = none := by
      have := h.test
      simpa [State.inTest, hs, FrameState.inTest] using this
    refine ⟨hf, by simp [State.inTest, FrameState.inTest], by simpa [State.inTest, FrameState.inTest] using hq,
      by simpa [State.inTest, FrameState.inTest] using hroom, ?_⟩
    have hids := h.ids
    simp only [hrest, hnone, List.map_cons, Option.toList_none, List.map_nil, List.append_nil] at hids
    simp only [onSeq_recs, onServo_recs, onFrame_recs, onRecs_recs, hrest, List.tail_cons, Option.toList_some,
      List.map_cons, List.map_nil]
    refine (List.Perm.append_right _ ?_).nodup_iff.1 hids
    exact (List.perm_append_singleton x.id (rest.map (·.id))).symm
  | recorded k d c => exact h.of_frame hf (by simp) (by simp) (by simp)
  | defined _ _ | joined _ _ | evaluated _ _ | cleared _ => exact h.of_frame hf rfl rfl rfl

/-! ### The committed definition -/

theorem Change.committedDefinition {d : FrameDefinition} (c : Change s t)
    (h : s.frame.status = .committed ∧ s.frame.defn = d) : t.frame.status = .committed ∧ t.frame.defn = d := by
  obtain ⟨hstatus, hdefn⟩ := h
  have ended (u : State) (o : TestOutcome) (n : Nat) (hu : u.frame.status = .committed ∧ u.frame.defn = d) :
      (u.endTest o n).frame.status = .committed ∧ (u.endTest o n).frame.defn = d := by
    rw [endTest_frame]
    unfold Frame.afterTest
    split <;> try split
    all_goals exact hu
  cases c with
  | alike ha => exact ⟨ha.status.trans hstatus, ha.defn.trans hdefn⟩
  | defined _ hopen | committed hopen => simp [hstatus] at hopen
  | outside f _ _ hs hd _ => exact ⟨hs.trans hstatus, hd.trans hdefn⟩
  | ended o n _ _ => exact ended s o n ⟨hstatus, hdefn⟩
  | faulted k d =>
    obtain heq | ⟨_, _, heq⟩ | ⟨_, heq⟩ := frameFault_cases (s := s) k d <;> rw [heq]
    · exact ⟨hstatus, hdefn⟩
    · exact ⟨hstatus, hdefn⟩
    · exact ended _ _ _ ⟨hstatus, hdefn⟩
  | recorded k d c => simpa using ⟨hstatus, hdefn⟩
  | moveEnded _ | held _ _ _ | joined _ _ | resumed _ _ | evaluated _ _ | queued _ _ _ | started _ _ _ _ _ _ _ _
  | cleared _ => exact ⟨hstatus, hdefn⟩

end

/-! ### Power-on -/

section
variable (levels : Inputs) (rest : List Instr)

theorem frameInOrder_atPowerOn : (State.atPowerOn levels rest).FrameInOrder := ⟨fun _ => rfl, nofun⟩

theorem holdInOrder_atPowerOn : (State.atPowerOn levels rest).HoldInOrder :=
  ⟨frameInOrder_atPowerOn levels rest, fun h => absurd rfl h⟩

theorem recordsInOrder_atPowerOn : (State.atPowerOn levels rest).RecordsInOrder :=
  ⟨frameInOrder_atPowerOn levels rest, rfl, rfl, Nat.zero_le _, List.nodup_nil⟩

theorem withinCapacity_atPowerOn : (State.atPowerOn levels rest).WithinCapacity := by
  constructor <;> exact Nat.zero_le _

/-- No kind is pending at power-on. -/
theorem record_initial (k : EventKind) : Events.initial.record k = none := by
  cases k <;> rfl

theorem eventsInOrder_atPowerOn : (State.atPowerOn levels rest).EventsInOrder :=
  ⟨List.nodup_nil, nofun, fun k r h => by
    rw [show (State.atPowerOn levels rest).events.record k = none from record_initial k] at h
    cases h⟩

theorem yieldsInOrder_atPowerOn : (State.atPowerOn levels rest).eval.InOrder := ⟨nofun, nofun, nofun⟩

end

/-! ### The statements -/

/-- Settles O54: the reset state is a power-on state. -/
theorem invariantsHoldAtReset : Obligations.InvariantsHoldAtReset :=
  ⟨withinCapacity_atPowerOn _ _, holdInOrder_atPowerOn _ _, recordsInOrder_atPowerOn _ _, eventsInOrder_atPowerOn _ _,
    yieldsInOrder_atPowerOn _ _⟩

/-- Settles O55: every change keeps the capacities. -/
theorem stepsKeepTheCapacities : Obligations.StepsKeepTheCapacities :=
  fun s _ => step_keeps s withinCapacity_atPowerOn Change.withinCapacity

/-- Settles O56: every change keeps the hold causes and the frame in order. -/
theorem stepsKeepTheHoldCausesInOrder : Obligations.StepsKeepTheHoldCausesInOrder :=
  fun s _ => step_keeps s holdInOrder_atPowerOn Change.holdInOrder

/-- Settles O57: every change keeps the records in order. -/
theorem stepsKeepTheRecordsInOrder : Obligations.StepsKeepTheRecordsInOrder :=
  fun s _ => step_keeps s recordsInOrder_atPowerOn Change.recordsInOrder

/-- Settles O58: every change keeps the event table and its transmit queue in order. -/
theorem stepsKeepTheEventsInOrder : Obligations.StepsKeepTheEventsInOrder :=
  fun s _ => step_keeps s eventsInOrder_atPowerOn Change.eventsInOrder

/-- Settles O59: every change keeps the yield values in order. -/
theorem stepsKeepTheYieldValuesInOrder : Obligations.StepsKeepTheYieldValuesInOrder :=
  fun s _ => step_keeps (P := fun u => u.eval.InOrder) s yieldsInOrder_atPowerOn Change.yieldsInOrder

/-- Settles O60: only POWER_ON starts anew; every other step is a chain of changes, and none touches a committed definition. -/
theorem committedDefinitionStays : Obligations.CommittedDefinitionStays := by
  intro s t hstatus hfront h
  obtain ⟨levels, rest, hp, _⟩ | ⟨_, hc⟩ := step_cases s h
  · exact absurd hp (hfront levels)
  · exact hc.keeps (P := fun u => u.frame.status = .committed ∧ u.frame.defn = s.frame.defn)
      Change.committedDefinition ⟨hstatus, rfl⟩

end Sys2Proof.Machine
end

section
/-! The frame supervisor's requests (spec/01): the definition, the gains, the drive, the moves. -/

namespace Sys2Proof.Machine

/-- The state that a request's effect and its reply leave. -/
def answering (kind tag : Byte) (r : Reply × State) : State := r.2.replying kind tag r.1.status r.1.detail r.1.data

theorem answering_ok (kind tag : Byte) (data : List Byte) (t : State) :
    answering kind tag (.ok data, t) = t.replying kind tag .ok 0 data := rfl

section
variable {s : State} (tag : Byte)

/-! ### The requests at their block -/

theorem exec_defineFrame (d : RawDefinition) (hs : s.free) : exec (.defineFrame tag d) s =
    .next (answering 0x81 tag (handleDefineFrame (if d.agrees then some d else none) s)) :=
  request_perform s (.defineFrame _) hs nofun

theorem exec_commitFrame (hs : s.free) :
    exec (.commitFrame tag) s = .next (answering 0x82 tag (handleCommitFrame s)) :=
  request_perform s .commitFrame hs nofun

theorem exec_setLoop (channel : Byte) (kp ki kf : Word32) (hs : s.free) :
    exec (.setLoop tag channel kp ki kf) s = .next (answering 0x83 tag (handleSetLoop channel kp ki kf s)) :=
  request_perform s (.setLoop ..) hs nofun

theorem exec_driveOn (hs : s.free) : exec (.driveOn tag) s = .next (answering 0x84 tag (handleDriveOn s)) :=
  request_perform s .driveOn hs nofun

theorem exec_driveOff (hs : s.free) : exec (.driveOff tag) s = .next (answering 0x85 tag (handleDriveOff s)) :=
  request_perform s .driveOff hs nofun

theorem exec_clearFault (hs : s.free) : exec (.clearFault tag) s = .next (answering 0x86 tag (handleClearFault s)) :=
  request_perform s .clearFault hs nofun

theorem exec_jog (speed : Word32) (hs : s.free) : exec (.jog tag speed) s = .next (answering 0x87 tag (handleJog speed s)) :=
  request_perform s (.jog speed) hs nofun

theorem exec_moveTo (target speed : Word32) (hs : s.free) :
    exec (.moveTo tag target speed) s = .next (answering 0x88 tag (handleMoveTo target speed s)) :=
  request_perform s (.moveTo target speed) hs nofun

theorem exec_setOverride (percent : BitVec 16) (hs : s.free) :
    exec (.setOverride tag percent) s = .next (answering 0x8B tag (handleSetOverride percent s)) :=
  request_perform s (.setOverride percent) hs nofun

theorem exec_tare (hs : s.free) : exec (.tare tag) s = .next (answering 0x8C tag (handleTare s)) :=
  request_perform s .tare hs nofun

theorem exec_setFilter (n : Byte) (hs : s.free) :
    exec (.setFilter tag n) s = .next (answering 0x8D tag (handleSetFilter n s)) :=
  request_perform s (.setFilter n) hs nofun

theorem exec_zeroExt (gauge : Word32) (hs : s.free) :
    exec (.zeroExt tag gauge) s = .next (answering 0x8E tag (handleZeroExt gauge s)) :=
  request_perform s (.zeroExt gauge) hs nofun

end

/-! ### The definition (R3 to R5) -/

theorem committed_iff (s : State) : s.committed = true ↔ s.frame.status = .committed := by
  simp [State.committed]

/-- Settles O3: LOCKED, the record as sent, or BAD_LENGTH for the list that does not agree with its count. -/
theorem defineFrameStoresTheBodyAsSent : Obligations.DefineFrameStoresTheBodyAsSent := by
  intro s tag d hs
  have hagrees : d.agrees = true ↔ d.points.length = d.count.toNat ∧ d.count.toNat ≤ 9 := by simp [RawDefinition.agrees]
  simp only [exec_defineFrame tag d hs, handleDefineFrame, committed_iff, hagrees]
  split_ifs <;> rfl

/-- The fault-cause record that the asserted inputs leave (R15). -/
theorem commit_eq (f : Frame) (i : Inputs) (time : Word32) :
    f.commit i time = { f with
      status := .committed
      state := if i.estop ∨ i.upper ∨ i.lower then .faulted else .driveOff
      firstCause :=
        if i.estop then some { kind := .estop, detail := 0, time := time }
        else if i.upper then some { kind := .limitSwitch, detail := 1, time := time }
        else if i.lower then some { kind := .limitSwitch, detail := 2, time := time } else none
      causeSet := (if i.estop then [.estop] else []) ++ (if i.upper ∨ i.lower then [.limitSwitch] else []) } := by
  unfold Frame.commit anyCabinet inputCauses
  cases i.estop <;> cases i.upper <;> cases i.lower <;> rfl

/-- Settles O5: LOCKED, the first failing index, or the definition in use. -/
theorem commitFramePutsTheDefinitionInUse : Obligations.CommitFramePutsTheDefinitionInUse := by
  intro s tag hs
  simp only [exec_commitFrame tag hs, handleCommitFrame, committed_iff, commit_eq]
  split_ifs
  · rfl
  all_goals cases firstFailing s.frame.defn.checks <;> rfl

/-! ### The gains (R8) -/

theorem Channel.ofCode_eq_getElem? (n : Nat) : Channel.ofCode n = [Channel.position, .force, .strain][n]? :=
  match n with
  | 0 | 1 | 2 | _ + 3 => rfl

theorem gainOk_iff (w : Word32) : gainOk w = true ↔ ¬2147483647 < w.toNat := by simp [gainOk]

/-- The first gain that lies outside its range. -/
theorem firstFailing_gains (kp ki kf : Word32) :
    firstFailing [(2, gainOk kp), (3, gainOk ki), (4, gainOk kf)] =
      if 2147483647 < kp.toNat then some 2 else if 2147483647 < ki.toNat then some 3
      else if 2147483647 < kf.toNat then some 4 else none := by
  rw [firstFailing_cons_of_iff (gainOk_iff kp), firstFailing_cons_of_iff (gainOk_iff ki),
    firstFailing_cons_of_iff (gainOk_iff kf)]
  rfl

/-- A byte up to 2 names the channel whose gains are replaced. -/
theorem setGains_of_code (f : Frame) (channel : Byte) (g : Gains) (h : ¬2 < channel.toNat) :
    ∃ c, Channel.ofCode channel.toNat = some c ∧ f.setGains c g = { f with
      gainsPosition := if channel = 0 then g else f.gainsPosition
      gainsForce := if channel = 1 then g else f.gainsForce
      gainsStrain := if channel = 2 then g else f.gainsStrain } := by
  have hc : channel = 0 ∨ channel = 1 ∨ channel = 2 := by
    bv_omega
  rcases hc with rfl | rfl | rfl
  · exact ⟨.position, rfl, rfl⟩
  · exact ⟨.force, rfl, rfl⟩
  · exact ⟨.strain, rfl, rfl⟩

/-- R8 outside a test and a return. -/
theorem handleSetLoop_eq (channel : Byte) (kp ki kf : Word32) (s : State) :
    handleSetLoop channel kp ki kf s =
      if s.frame.state = .testing ∨ s.frame.state = .held ∨ s.frame.state = .returning then (.refuse .wrongState 0, s)
      else match Channel.ofCode channel.toNat with
        | none => (.refuse .badValue 1, s)
        | some c =>
          match firstFailing [(2, gainOk kp), (3, gainOk ki), (4, gainOk kf)] with
          | some index => (.refuse .badValue index, s)
          | none => (.ok [], s.onFrame (·.setGains c { kp := kp.toNat, ki := ki.toNat, kf := kf.toNat })) := by
  unfold handleSetLoop
  cases s.frame.state <;> rfl

/-- Settles O6: the state, the channel and the three gains are checked in this order. -/
theorem setLoopSetsTheGainsOfOneChannel : Obligations.SetLoopSetsTheGainsOfOneChannel := by
  intro s tag channel kp ki kf hs g
  rw [exec_setLoop tag channel kp ki kf hs, handleSetLoop_eq, firstFailing_gains]
  by_cases hstate : s.frame.state = .testing ∨ s.frame.state = .held ∨ s.frame.state = .returning
  · rw [if_pos hstate, if_pos hstate]; rfl
  · rw [if_neg hstate, if_neg hstate]
    by_cases hc : 2 < channel.toNat
    · rw [if_pos hc, Channel.ofCode_eq_getElem?, List.getElem?_eq_none hc]; rfl
    · obtain ⟨c, hcode, hset⟩ := setGains_of_code s.frame channel g hc
      rw [if_neg hc, hcode, ← hset]
      split_ifs <;> rfl

/-! ### Jog and move (R19, R20) -/

theorem handleJog_eq (speed : Word32) (s : State) :
    handleJog speed s =
      if ¬(s.frame.state = .ready ∨ s.frame.state = .moving) then (.refuse .wrongState 0, s)
      else if speed = 0 then (.ok [0, 0, 0, 0], if s.frame.state = .moving then s.stopCrosshead else s)
      else (speedReply speed.toInt (speedUsed s.frame.defn.vmax speed.toInt), s.onFrame fun f => { f with
        state := .moving
        move := some { kind := .jog, target := none, rate := speedUsed s.frame.defn.vmax speed.toInt, reached := false,
                       settle := none } }) := by
  have h0 : speed.toInt = 0 ↔ speed = 0 := by rw [← BitVec.toInt_inj]; rfl
  unfold handleJog
  simp only [h0]
  cases s.frame.state <;> rfl

theorem handleMoveTo_eq (target speed : Word32) (s : State) :
    handleMoveTo target speed s =
      if ¬(s.frame.state = .ready ∨ s.frame.state = .moving) then (.refuse .wrongState 0, s)
      else if target.toInt < s.frame.defn.travelMin ∨ s.frame.defn.travelMax < target.toInt then (.refuse .badValue 1, s)
      else if speed.toInt < 1 then (.refuse .badValue 2, s)
      else (speedReply speed.toInt (speedUsed s.frame.defn.vmax speed.toInt), s.onFrame fun f => { f with
        state := .moving
        move := some { kind := .moveTo, target := some target.toInt,
                       rate := rateToward s.servo.sp target.toInt (speedUsed s.frame.defn.vmax speed.toInt),
                       reached := false, settle := none } }) := by
  have hwithin : within s.frame.defn.travelMin s.frame.defn.travelMax target.toInt = false ↔
      target.toInt < s.frame.defn.travelMin ∨ s.frame.defn.travelMax < target.toInt := by
    simp only [within, decide_eq_false_iff_not]
    omega
  unfold handleMoveTo
  simp only [hwithin]
  cases s.frame.state <;> rfl

/-- The speed of a jog: the sent one, or the end of the range that it lies beyond. -/
theorem speedUsed_eq (vmax speed : Int) :
    speedUsed vmax speed = if speed < -vmax then -vmax else if vmax < speed then vmax else speed := rfl

/-- A speed of at least 1 does not lie below a range around 0. -/
theorem speedUsed_of_pos {vmax speed : Int} (hv : 0 ≤ vmax) (hs : ¬speed < 1) :
    speedUsed vmax speed = if vmax < speed then vmax else speed := by
  rw [speedUsed_eq, if_neg (by omega)]


/-- Settles O9: the frame state, the values and the ramp of each request. -/
theorem jogAndMoveToStartClampedRamps : Obligations.JogAndMoveToStartClampedRamps := by
  constructor
  · intro s tag speed hs used
    rw [exec_jog tag speed hs, handleJog_eq, stopCrosshead_eq]
    by_cases h1 : s.frame.state = .ready ∨ s.frame.state = .moving
    · rw [if_neg (not_not.2 h1), if_neg (not_not.2 h1)]
      by_cases h2 : speed = 0
      · rw [if_pos h2, if_pos h2]
        split_ifs <;> rfl
      · rw [if_neg h2, if_neg h2]
        rfl
    · rw [if_pos h1, if_pos h1]
      rfl
  · intro s tag target speed hs hv used
    rw [exec_moveTo tag target speed hs, handleMoveTo_eq]
    by_cases h1 : s.frame.state = .ready ∨ s.frame.state = .moving
    · rw [if_neg (not_not.2 h1), if_neg (not_not.2 h1)]
      by_cases h2 : target.toInt < s.frame.defn.travelMin ∨ s.frame.defn.travelMax < target.toInt
      · rw [if_pos h2, if_pos h2]
        rfl
      · rw [if_neg h2, if_neg h2]
        by_cases h3 : speed.toInt < 1
        · rw [if_pos h3, if_pos h3]
          rfl
        · rw [if_neg h3, if_neg h3, speedUsed_of_pos hv h3]
          rfl
    · rw [if_pos h1, if_pos h1]
      rfl

end Sys2Proof.Machine
end

section
/-! Override, tare, filter and zero; the drive's and the cabinet's lines (spec/01 to spec/03, spec/05). -/

namespace Sys2Proof.Machine

/-! ### Override, tare, filter and zero (R31, R55, R56, R59, R89) -/

/-- R31: the override as used, its reply's value in two bytes. -/
theorem overrideReply_eq (percent : BitVec 16) :
    let used := if percent.toNat < 10 then 10 else if 200 < percent.toNat then 200 else percent.toNat
    limit 10 200 percent.toNat = used ∧ ((used : Int) = percent.toNat ↔ ¬(percent.toNat < 10 ∨ 200 < percent.toNat)) ∧
      bytes16 (BitVec.ofInt 16 used) = [BitVec.ofNat 8 used, 0] := by
  intro used
  have hused : used ≤ 200 := by
    simp only [used]
    split_ifs <;> omega
  refine ⟨?_, ?_, ?_⟩
  · simp only [limit, used]
    split_ifs <;> omega
  · simp only [used]
    split_ifs <;> omega
  · generalize used = n at hused
    rw [bytes16, BitVec.ofInt_natCast]
    congr 1
    · apply BitVec.eq_of_toNat_eq
      simp
    · congr 1
      apply BitVec.eq_of_toNat_eq
      simp [Nat.shiftRight_eq_div_pow]
      omega

/-- R55 and R56: the tare is taken over, and the window follows it unless it is empty. -/
theorem retare_eq (c : Force) (tare : Int) :
    c.retare tare =
      if c.window = [] then { c with tare := tare }
      else { c with
        tare := tare
        window := c.window.map fun x => x - (tare - c.tare)
        filtered := meanOf (c.window.map fun x => x - (tare - c.tare))
        previous := meanOf (c.window.map fun x => x - (tare - c.tare)) } := by
  simp only [Force.retare, List.isEmpty_iff, List.map_eq_nil_iff]

/-- The filter lengths that a byte can name (R59). -/
theorem filterLength_mem_iff (n : Byte) :
    n.toNat ∈ [1, 2, 4, 8, 16] ↔ n = 1 ∨ n = 2 ∨ n = 4 ∨ n = 8 ∨ n = 16 := by
  simp only [List.mem_cons, List.not_mem_nil, or_false, ← BitVec.toNat_inj]
  rfl

theorem within_eq_false_iff (lo hi x : Int) : within lo hi x = false ↔ x < lo ∨ hi < x := by
  simp only [within, decide_eq_false_iff_not]
  omega

/-- Settles O12: each request goes through its checks in their order. -/
theorem overrideTareFilterAndZero : Obligations.OverrideTareFilterAndZero := by
  refine ⟨?_, ⟨?_, ?_⟩, ?_⟩
  · intro s tag percent hs used
    obtain ⟨hlimit, hsame, hbytes⟩ := overrideReply_eq percent
    change limit 10 200 percent.toNat = used at hlimit
    change (used : Int) = percent.toNat ↔ _ at hsame
    change bytes16 (BitVec.ofInt 16 used) = [BitVec.ofNat 8 used, 0] at hbytes
    simp only [exec_setOverride tag percent hs, handleSetOverride, inTest_iff, hlimit, hsame, hbytes]
    split_ifs <;> rfl
  · intro s tag hs window
    simp only [exec_tare tag hs, handleTare, inTest_iff]
    split_ifs with h1 h2
    · rfl
    · simp only [answering_ok, State.onForce, retare_eq, if_pos h2]
    · simp only [answering_ok, State.onForce, retare_eq, if_neg h2]
      rfl
  · intro s tag n hs
    simp only [exec_setFilter tag n hs, handleSetFilter, inTest_iff, filterLength_mem_iff]
    split_ifs <;> rfl
  · intro s tag gauge hs
    have hstate : s.strain.state ≠ .fitted ∧ s.strain.state ≠ .zeroed ↔
        ¬(s.strain.state = .fitted ∨ s.strain.state = .zeroed) := not_or.symm
    have hgauge : within 5000 200000 gauge.toNat = false ↔ gauge.toNat < 5000 ∨ 200000 < gauge.toNat := by
      rw [within_eq_false_iff]
      omega
    simp only [exec_zeroExt tag gauge hs, handleZeroExt, inTest_iff, hstate, hgauge]
    split_ifs <;> rfl

/-! ### The drive's and the cabinet's lines (R10 to R12, R16) -/

/-- A fault of a frame in no test, and not UNDEFINED (R14). -/
theorem frameFault_of_not_inTest (s : State) (k : EventKind) (d : Word32) (h : s.inTest = false)
    (hu : s.frame.state ≠ .undefined) : s.frameFault k d = s.onFrame (·.enterFault k d s.clock) := by
  rw [State.frameFault, if_neg hu, h]
  rfl

/-- DRIVE_TIMEOUT in ENABLING faults the frame with a record of its own (R11, R15). -/
theorem raise_driveTimeout_of_enabling (s : State) (h : s.frame.state = .enabling) :
    s.raise .driveTimeout 0 = { s.record .driveTimeout 0 .frameFault with
      frame := { s.frame with
        state := .faulted, driveTimer := none, move := none,
        firstCause := some { kind := .driveTimeout, detail := 0, time := s.clock }, causeSet := [.driveTimeout] } } := by
  rw [raise_of_frameFault _ _ _ (classOf_driveTimeout s), frameFault_of_not_inTest]
  · simp [State.onFrame, Frame.enterFault, h]
  · simp [State.inTest, h, FrameState.inTest]
  · simp [h]

section
variable (s : State)

theorem exec_driveReadySeen : exec .driveReadySeen s = .next (
    if s.frame.state = .enabling then
      ((s.onInputs fun i => { i with driveReady := true, driveFault := false }).driveBecomesReady).transmit
    else (s.onInputs fun i => { i with driveReady := true, driveFault := false }).transmit) := by
  change (if s.frame.state = .enabling then _ else _ : State).done = _
  split_ifs <;> rfl

theorem exec_driveEnableTimerExpiry : exec .driveEnableTimerExpiry s = .next (
    if s.frame.state = .enabling then (s.raise .driveTimeout 0).transmit else s.transmit) := by
  change (if _ then _ else _ : State).done = _
  split_ifs <;> rfl

/-- An input that becomes asserted raises its event (R16). -/
theorem exec_cabinetInputAsserted (x : CabinetInput) (h : s.inputs.cabinet x = false) :
    exec (.cabinetInputAsserted x) s =
      .next ((s.onInputs (·.withCabinet true x)).raise (cabinetEvent x).1 (cabinetEvent x).2).transmit := by
  change (if _ then _ else _ : State).done = _
  rw [h]
  rfl

/-- An input that is asserted already raises nothing. -/
theorem exec_cabinetInputAsserted_again (x : CabinetInput) (h : s.inputs.cabinet x = true) :
    exec (.cabinetInputAsserted x) s = .next s.transmit := by
  change (if _ then _ else _ : State).done = _
  rw [h]
  rfl

end

/-- Settles O8: the state after each line's change, and the event that it raises. -/
theorem driveLinesAndCabinetInputsAct : Obligations.DriveLinesAndCabinetInputsAct := by
  refine ⟨fun s h => ?_, fun s h => ?_, fun s h => ?_, fun s h => ?_, fun cause s => ?_,
    fun s h => exec_cabinetInputAsserted s .estop h, fun s h => exec_cabinetInputAsserted s .upperLimit h,
    fun s h => exec_cabinetInputAsserted s .lowerLimit h, fun x s h => exec_cabinetInputAsserted_again s x h,
    fun x s => by cases x <;> rfl⟩
  · rw [exec_driveReadySeen, if_pos h]; rfl
  · rw [exec_driveReadySeen, if_neg h]; rfl
  · rw [exec_driveEnableTimerExpiry, if_pos h, raise_driveTimeout_of_enabling s h]
  · rw [exec_driveEnableTimerExpiry, if_neg h]
  · change (execDriveReadyCeases cause s) = _
    unfold execDriveReadyCeases
    cases h : s.frame.state <;> cases cause <;> simp [h] <;> rfl

end Sys2Proof.Machine
end

section
/-! Checks in the order of their indices: the check of COMMIT_FRAME (spec/01, section 1.2). -/

namespace Sys2Proof.Machine

/-! ### The first failing index -/

theorem firstFailing_eq_none_iff (cs : List (Nat × Bool)) : firstFailing cs = none ↔ ∀ c ∈ cs, c.2 = true := by
  induction cs with
  | nil => simp [firstFailing]
  | cons c cs ih => cases h : c.2 <;> simp [firstFailing, h, ih]

/-- With rising indices the first failing index is that of a failing check all of whose predecessors pass. -/
theorem firstFailing_eq_some_iff {cs : List (Nat × Bool)} (hs : cs.Pairwise fun a b => a.1 < b.1) (i : Nat) :
    firstFailing cs = some i ↔ (i, false) ∈ cs ∧ ∀ c ∈ cs, c.1 < i → c.2 = true := by
  induction cs with
  | nil => simp [firstFailing]
  | cons c cs ih =>
    obtain ⟨hc, hcs⟩ := List.pairwise_cons.1 hs
    obtain ⟨k, passed⟩ := c
    cases passed with
    | true =>
      simp only [firstFailing, if_true, ih hcs, List.mem_cons, Prod.mk.injEq, Bool.false_eq_true, and_false, false_or,
        forall_eq_or_imp, implies_true, true_and]
    | false =>
      simp only [firstFailing, Bool.false_eq_true, if_false, Option.some.injEq, List.mem_cons, Prod.mk.injEq, and_true,
        forall_eq_or_imp, imp_false, not_lt]
      constructor
      · rintro rfl
        exact ⟨.inl rfl, le_refl _, fun c hmem hlt => absurd hlt (Nat.not_lt.2 (hc c hmem).le)⟩
      · rintro ⟨hi | hi, hle, -⟩
        · exact hi.symm
        · exact absurd (hc _ hi) (Nat.not_lt.2 hle)

/-- A list of checks with rising indices finds the lowest index whose field is out of its range, where each check decides its
field once every lower field is in its range. -/
theorem firstFailing_spec {cs : List (Nat × Bool)} (ok : Nat → Prop) (hs : (cs.map Prod.fst).Pairwise (· < ·))
    (hin : ∀ c ∈ cs, (∀ j < c.1, ok j) → (c.2 = true ↔ ok c.1)) (hout : ∀ i, i ∉ cs.map Prod.fst → ok i) :
    (firstFailing cs = none ↔ ∀ i, ok i) ∧ ∀ i, firstFailing cs = some i ↔ ¬ok i ∧ ∀ j, j < i → ok j := by
  have okBelow (i : Nat) (h : ∀ c ∈ cs, c.1 < i → c.2 = true) : ∀ j, j < i → ok j := by
    intro j
    induction j using Nat.strong_induction_on with
    | _ j ih =>
      intro hj
      by_cases hmem : j ∈ cs.map Prod.fst
      · obtain ⟨c, hc, rfl⟩ := List.mem_map.1 hmem
        exact (hin c hc fun k hk => ih k hk (hk.trans hj)).1 (h c hc hj)
      · exact hout j hmem
  constructor
  · rw [firstFailing_eq_none_iff]
    exact ⟨fun h i => okBelow (i + 1) (fun c hc _ => h c hc) i (Nat.lt_succ_self i),
      fun h c hc => (hin c hc fun j _ => h j).2 (h _)⟩
  · intro i
    rw [firstFailing_eq_some_iff (List.pairwise_map.1 hs)]
    constructor
    · rintro ⟨hi, hbelow⟩
      have hok := okBelow i hbelow
      exact ⟨fun h => absurd ((hin _ hi hok).2 h) Bool.false_ne_true, hok⟩
    · rintro ⟨hnot, hok⟩
      obtain ⟨⟨k, passed⟩, hc, rfl⟩ := List.mem_map.1 (not_not.1 fun hmem => hnot (hout i hmem))
      refine ⟨?_, fun c' hc' hlt => (hin c' hc' fun j hj => hok j (hj.trans hlt)).2 (hok _ hlt)⟩
      cases passed with
      | false => exact hc
      | true => exact absurd ((hin _ hc hok).1 rfl) hnot

theorem within_iff (lo hi x : Int) : within lo hi x = true ↔ lo ≤ x ∧ x ≤ hi := by simp [within]

/-! ### The definition's checks (R4) -/

/-- The checks of a point list, one for each point, its raw count above that of the point before it. -/
theorem getElem?_pointChecks (xs : List CalPoint) (i : Nat) (before : Option Int) (n : Nat) :
    (pointChecks i before xs)[n]? = xs[n]?.map fun x =>
      (8 + i + n, within (-8388608) 8388607 x.raw &&
        (if n = 0 then before else xs[n - 1]?.map (·.raw)).all fun b => decide (b < x.raw)) := by
  induction xs generalizing i before n with
  | nil => simp [pointChecks]
  | cons x xs ih =>
    cases n with
    | zero => simp [pointChecks]
    | succ n =>
      rw [pointChecks, List.getElem?_cons_succ, List.getElem?_cons_succ, ih]
      cases n with
      | zero => simp [Nat.add_assoc]
      | succ n => simp [Nat.add_assoc, Nat.add_comm 1]

theorem mem_pointChecks {xs : List CalPoint} {c : Nat × Bool} (h : c ∈ pointChecks 0 none xs) :
    ∃ n x, xs[n]? = some x ∧ c.1 = n + 8 ∧
      (c.2 = true ↔ -8388608 ≤ x.raw ∧ x.raw ≤ 8388607 ∧ ∀ m y, n = m + 1 → xs[m]? = some y → y.raw < x.raw) := by
  obtain ⟨n, hn⟩ := List.mem_iff_getElem?.1 h
  rw [getElem?_pointChecks, Option.map_eq_some_iff] at hn
  obtain ⟨x, hx, rfl⟩ := hn
  refine ⟨n, x, hx, by omega, ?_⟩
  rw [Bool.and_eq_true, within_iff, and_assoc]
  cases n with
  | zero => simp
  | succ n =>
    simp only [Nat.succ_ne_zero, if_false, Nat.add_sub_cancel, Nat.add_right_cancel_iff]
    have hlast : (∀ m y, n = m → xs[m]? = some y → y.raw < x.raw) ↔ ∀ y, xs[n]? = some y → y.raw < x.raw := by
      constructor
      · exact fun h y hy => h n y rfl hy
      · rintro h m y rfl hy
        exact h y hy
    rw [hlast]
    cases xs[n]? <;> simp

/-- The indices of the definition's checks: 1 to 7, and 8 upward for the points. -/
theorem checks_indices (d : FrameDefinition) : d.checks.map Prod.fst = List.range' 1 (7 + d.points.length) := by
  have hpoints (xs : List CalPoint) (i : Nat) (before : Option Int) :
      (pointChecks i before xs).map Prod.fst = List.range' (8 + i) xs.length := by
    induction xs generalizing i before with
    | nil => rfl
    | cons x xs ih => rw [pointChecks, List.map_cons, ih, List.length_cons, List.range'_succ, Nat.add_assoc]
  rw [FrameDefinition.checks, List.map_append, hpoints, ← List.range'_append_1]
  rfl

/-- Settles O4: the checks are those of the table, in the order of its indices. -/
theorem commitChecksTheFieldsInOrder : Obligations.CommitChecksTheFieldsInOrder := by
  intro d ok
  refine firstFailing_spec ok (checks_indices d ▸ List.pairwise_lt_range') (fun c hc _ => ?_) fun i hi => ?_
  · rw [FrameDefinition.checks, List.mem_append] at hc
    rcases hc with hc | hc
    · simp only [List.mem_cons, List.not_mem_nil, or_false] at hc
      rcases hc with rfl | rfl | rfl | rfl | rfl | rfl | rfl <;>
        simp [ok, within_iff, and_assoc]
    · obtain ⟨n, x, hx, hc1, hc2⟩ := mem_pointChecks hc
      rw [hc1, hc2]
      exact ⟨fun h y hy => by obtain rfl : x = y := Option.some.inj (hx.symm.trans hy); exact h, fun h => h x hx⟩
  · rw [checks_indices, List.mem_range'_1] at hi
    obtain rfl | ⟨n, rfl⟩ : i = 0 ∨ ∃ n, i = n + 8 := by
      by_cases h0 : i = 0
      · exact .inl h0
      · exact .inr ⟨i - 8, by omega⟩
    · trivial
    · intro x hx
      rw [List.getElem?_eq_none (by omega)] at hx
      cases hx

end Sys2Proof.Machine
end

section
/-! Program records (spec/06, section 6.1): their checks, the record as stored, LOAD_PROGRAM. -/

namespace Sys2Proof.Machine

/-! ### The codes of a stage -/

theorem EndKind.ofCode_eq_getElem? (n : Nat) :
    EndKind.ofCode n = [EndKind.never, .target, .forceAbove, .forceBelow, .strainAbove, .displacementAbove, .stageTime,
      .yieldFound, .fmaxPassed][n]? :=
  match n with
  | 0 | 1 | 2 | 3 | 4 | 5 | 6 | 7 | 8 | _ + 9 => rfl

theorem endKindOf_isSome_iff (k : BitVec 4) : (endKindOf k).isSome = true ↔ k.toNat ≤ 8 := by
  rw [endKindOf, EndKind.ofCode_eq_getElem?, isSome_getElem?, List.length_cons]
  exact Nat.lt_succ_iff

/-- The code of an end kind, read back. -/
theorem endKindOf_eq_some_iff (k : BitVec 4) (e : EndKind) :
    endKindOf k = some e ↔ k.toNat = ([.never, .target, .forceAbove, .forceBelow, .strainAbove, .displacementAbove,
      .stageTime, .yieldFound, .fmaxPassed] : List EndKind).idxOf e := by
  unfold endKindOf
  match k.toNat with
  | 0 | 1 | 2 | 3 | 4 | 5 | 6 | 7 | 8 => cases e <;> decide
  | n + 9 => cases e <;> simp [EndKind.ofCode]

theorem endKindOf_eq_target_iff (k : BitVec 4) : endKindOf k = some .target ↔ k = 1 := by
  rw [endKindOf_eq_some_iff, ← BitVec.toNat_inj]
  rfl

/-- The ranges of an end condition's value (section 6.1). -/
def valueFits (kind : BitVec 4) (w : Word32) : Prop :=
  (kind = 2 ∨ kind = 3 → -5000000 ≤ w.toInt ∧ w.toInt ≤ 5000000) ∧ (kind = 6 → 1 ≤ w.toNat ∧ w.toNat ≤ 86400000)

theorem endValueOk_iff (kind : BitVec 4) (w : Word32) : (endKindOf kind).all (endValueOk · w) = true ↔ valueFits kind w := by
  have h6 : within 1 86400000 w.toNat = true ↔ 1 ≤ w.toNat ∧ w.toNat ≤ 86400000 := by
    rw [within_iff]
    omega
  simp only [valueFits, ← BitVec.toNat_inj, endKindOf]
  match kind.toNat with
  | 0 | 1 | 4 | 5 | 7 | 8 => simp [EndKind.ofCode, endValueOk]
  | 2 | 3 => simp [EndKind.ofCode, endValueOk, within_iff]
  | 6 => simp [EndKind.ofCode, endValueOk, h6]
  | n + 9 => simp [EndKind.ofCode]

/-! ### The checks of a stage (R110) -/

/-- The largest rate of a channel's code (section 6.1). -/
def topRate (channel : Byte) : Int := if channel = 0 then 30000 else if channel = 1 then 100000 else 1000000

/-- The field of a stage lies in its range (section 6.1). -/
def stageFieldOk (g : RawStage) : Nat → Prop
  | 1 => g.channel.toNat ≤ 2
  | 2 => g.rate.toInt ≤ topRate g.channel ∧ -topRate g.channel ≤ g.rate.toInt
  | 3 => g.kind1.toNat ≤ 8 ∧ ¬(g.kind1 = 1 ∧ g.rate = 0)
  | 4 => valueFits g.kind1 g.value1
  | 5 => g.kind2.toNat ≤ 8 ∧ ¬(g.kind2 = 1 ∧ g.rate = 0) ∧ ¬(g.kind1 = 1 ∧ g.kind2 = 1)
  | _ => valueFits g.kind2 g.value2

theorem channel_cases {channel : Byte} (h : channel.toNat ≤ 2) : channel = 0 ∨ channel = 1 ∨ channel = 2 := by bv_omega

theorem rateLimit_of_code {channel : Byte} (h : channel.toNat ≤ 2) :
    ((Channel.ofCode channel.toNat).map rateLimit).getD 0 = topRate channel := by
  rcases channel_cases h with rfl | rfl | rfl <;> decide

theorem toInt_eq_zero_iff (w : Word32) : w.toInt = 0 ↔ w = 0 := by
  rw [← BitVec.toInt_inj]
  rfl

/-- Each check of a stage decides its field; that of the rate does where the channel's code has passed. -/
theorem mem_rawStageChecks {g : RawStage} {n : Nat} {c : Nat × Bool} (h : c ∈ rawStageChecks g n) :
    ∃ f, 1 ≤ f ∧ f ≤ 6 ∧ c.1 = 40 + 8 * n + f ∧
      ((∀ f' < f, 1 ≤ f' → stageFieldOk g f') → (c.2 = true ↔ stageFieldOk g f)) := by
  simp only [rawStageChecks, List.mem_cons, List.not_mem_nil, or_false] at h
  rcases h with rfl | rfl | rfl | rfl | rfl | rfl
  · refine ⟨1, by omega, by omega, rfl, fun _ => ?_⟩
    rw [stageFieldOk, Channel.ofCode_eq_getElem?, isSome_getElem?]
    exact Nat.lt_succ_iff
  · refine ⟨2, by omega, by omega, rfl, fun hlower => ?_⟩
    rw [rateLimit_of_code (hlower 1 (by omega) (by omega)), within_iff, and_comm]
    rfl
  · refine ⟨3, by omega, by omega, rfl, fun _ => ?_⟩
    simp only [stageFieldOk, Bool.and_eq_true, Bool.not_eq_true', endKindOf_isSome_iff, Bool.and_eq_false_iff,
      decide_eq_false_iff_not, endKindOf_eq_target_iff, toInt_eq_zero_iff, ← not_and_or]
  · exact ⟨4, by omega, by omega, rfl, fun _ => endValueOk_iff ..⟩
  · refine ⟨5, by omega, by omega, rfl, fun _ => ?_⟩
    simp only [stageFieldOk, Bool.and_eq_true, Bool.not_eq_true', endKindOf_isSome_iff, Bool.and_eq_false_iff,
      decide_eq_false_iff_not, endKindOf_eq_target_iff, toInt_eq_zero_iff, ← not_and_or, and_assoc]
  · exact ⟨6, by omega, by omega, rfl, fun _ => endValueOk_iff ..⟩

/-- The indices of a stage's checks. -/
theorem rawStageChecks_indices (g : RawStage) (n : Nat) :
    (rawStageChecks g n).map Prod.fst = (List.range' 1 6).map (40 + 8 * n + ·) := rfl

/-! ### The checks of the stages -/

theorem mem_stageChecks {gs : List RawStage} {i : Nat} {c : Nat × Bool} :
    c ∈ stageChecks i gs ↔ ∃ n g, gs[n]? = some g ∧ c ∈ rawStageChecks g (i + n) := by
  induction gs generalizing i with
  | nil => simp [stageChecks]
  | cons g gs ih =>
    rw [stageChecks, List.mem_append, ih]
    constructor
    · rintro (h | ⟨n, g', hg, hc⟩)
      · exact ⟨0, g, rfl, h⟩
      · exact ⟨n + 1, g', hg, by rwa [Nat.add_right_comm, Nat.add_assoc] at hc⟩
    · rintro ⟨n, g', hg, hc⟩
      cases n with
      | zero =>
        obtain rfl : g = g' := Option.some.inj hg
        exact .inl hc
      | succ n => exact .inr ⟨n, g', hg, by rwa [Nat.add_right_comm, Nat.add_assoc]⟩

/-- The indices of the stages' checks rise, from those of the first stage on. -/
theorem stageChecks_rise (gs : List RawStage) (i : Nat) :
    ((stageChecks i gs).map Prod.fst).Pairwise (· < ·) ∧ ∀ k ∈ (stageChecks i gs).map Prod.fst, 40 + 8 * i < k := by
  induction gs generalizing i with
  | nil => simp [stageChecks]
  | cons g gs ih =>
    obtain ⟨hrise, hfrom⟩ := ih (i + 1)
    have hown : ∀ k ∈ (rawStageChecks g i).map Prod.fst, 40 + 8 * i < k ∧ k ≤ 40 + 8 * i + 6 := by
      simp only [rawStageChecks_indices, List.mem_map, List.mem_range'_1]
      rintro k ⟨f, hf, rfl⟩
      omega
    simp only [stageChecks, List.map_append, List.pairwise_append, List.mem_append]
    refine ⟨⟨?_, hrise, fun a ha b hb => ?_⟩, fun k hk => ?_⟩
    · rw [rawStageChecks_indices]
      exact List.pairwise_map.2 (List.Pairwise.imp (fun h => Nat.add_lt_add_left h _) List.pairwise_lt_range')
    · have := hown a ha
      have := hfrom b hb
      omega
    · rcases hk with hk | hk
      · exact (hown k hk).1
      · have := hfrom k hk
        omega

/-! ### The checks of the program's fields (R109) -/

theorem within_toNat_iff (lo hi n : Nat) : within lo hi n = true ↔ lo ≤ n ∧ n ≤ hi := by
  rw [within_iff]
  omega

theorem defaulted_iff (lo hi : Nat) (w : Word32) :
    defaulted lo hi w = true ↔ w = 0xFFFFFFFF ∨ lo ≤ w.toNat ∧ w.toNat ≤ hi := by
  rw [defaulted, Bool.or_eq_true, decide_eq_true_iff, within_toNat_iff]
  rfl

theorem codeBelow_iff (n : Nat) (b : Byte) : codeBelow (n + 1) b = true ↔ b.toNat ≤ n := by
  rw [codeBelow, decide_eq_true_iff, Nat.lt_succ_iff]

theorem fieldChecks_indices (p : RawProgram) : (fieldChecks p).map Prod.fst = List.range' 1 25 := rfl

theorem programChecks_rise (p : RawProgram) : ((programChecks p).map Prod.fst).Pairwise (· < ·) := by
  obtain ⟨hrise, hfrom⟩ := stageChecks_rise p.stages 0
  rw [programChecks, List.map_append, fieldChecks_indices, List.pairwise_append]
  refine ⟨List.pairwise_lt_range', hrise, fun a ha b hb => ?_⟩
  have := List.mem_range'_1.1 ha
  have := hfrom b hb
  omega


/-- A word with a default: the marker, or a value in a range. -/
def marked (lo hi : Nat) (w : Word32) : Prop := w = 0xFFFFFFFF ∨ lo ≤ w.toNat ∧ w.toNat ≤ hi

/-- The field of a check index lies in its range (sections 6.1 of the program and of the stage). -/
def programFieldOk (p : RawProgram) : Nat → Prop
  | 1 => 1 ≤ p.stageCount.toNat ∧ p.stageCount.toNat ≤ 12
  | 2 => p.extRequired.toNat ≤ 1
  | 3 => p.extLostAction.toNat ≤ 1
  | 4 => p.removalStrain.toNat ≤ 2000000
  | 5 => p.removeAtNecking.toNat ≤ 1
  | 6 => p.removeBefore = 0 ∨ p.removeBefore.toNat < p.stageCount.toNat
  | 7 => marked 500 10000 p.removalTime
  | 8 => p.fitLower.toNat ≤ 5000000
  | 9 => p.fitLower.toNat < p.fitUpper.toNat ∧ p.fitUpper.toNat ≤ 5000000
  | 10 => marked 1000 100000 p.rpOffset
  | 11 => marked 1 50 p.yieldDrop
  | 12 => marked 0 100000 p.guardStrain
  | 13 => marked 1 50 p.margin
  | 14 => marked 1 100 p.neckingThreshold
  | 15 => marked 10 90 p.breakPct
  | 16 => marked 1 50 p.suddenPct
  | 17 => marked 100 2000000 p.breakMin
  | 18 => 1 ≤ p.forceLimit.toNat ∧ p.forceLimit.toNat ≤ 2200000
  | 19 => p.autoTare.toNat ≤ 1
  | 20 => p.returnEnabled.toNat ≤ 1
  | 21 => 1 ≤ p.returnSpeed.toNat ∧ p.returnSpeed.toNat ≤ 30000
  | 22 => p.holdMode.toNat ≤ 1
  | 23 => p.timersInHold.toNat ≤ 1
  | 24 => p.streamInHold.toNat ≤ 1
  | 25 => p.markerMode.toNat ≤ 2
  | i => ∀ n field g, i = 40 + 8 * n + field → 1 ≤ field → field ≤ 6 → p.stages[n]? = some g → stageFieldOk g field

/-- The fields above the program's own are those of the stages. -/
theorem programFieldOk_of_gt (p : RawProgram) (i : Nat) (h : 25 < i) :
    programFieldOk p i ↔
      ∀ n field g, i = 40 + 8 * n + field → 1 ≤ field → field ≤ 6 → p.stages[n]? = some g → stageFieldOk g field := by
  obtain ⟨k, rfl⟩ : ∃ k, i = k + 26 := ⟨i - 26, by omega⟩
  rfl

theorem programFieldOk_stage (p : RawProgram) {n f : Nat} {g : RawStage} (hf : 1 ≤ f) (hf' : f ≤ 6)
    (hg : p.stages[n]? = some g) : programFieldOk p (40 + 8 * n + f) ↔ stageFieldOk g f := by
  rw [programFieldOk_of_gt p _ (by omega)]
  constructor
  · exact fun h => h n f g rfl hf hf' hg
  · intro h m f' g' heq h1 h6 hg'
    obtain ⟨rfl, rfl⟩ : m = n ∧ f' = f := by omega
    obtain rfl : g = g' := Option.some.inj (hg.symm.trans hg')
    exact h

/-- Each check of the program's own fields decides its field. -/
theorem mem_fieldChecks {p : RawProgram} {c : Nat × Bool} (h : c ∈ fieldChecks p) :
    c.2 = true ↔ programFieldOk p c.1 := by
  have h0 : p.removeBefore.toNat = 0 ↔ p.removeBefore = 0 := by rw [← BitVec.toNat_inj]; rfl
  simp only [fieldChecks, List.mem_cons, List.not_mem_nil, or_false] at h
  rcases h with rfl | rfl | rfl | rfl | rfl | rfl | rfl | rfl | rfl | rfl | rfl | rfl | rfl | rfl | rfl | rfl | rfl | rfl |
    rfl | rfl | rfl | rfl | rfl | rfl | rfl
  all_goals
    simp only [programFieldOk, within_iff, codeBelow_iff, defaulted_iff, marked, Bool.or_eq_true, Bool.and_eq_true,
      decide_eq_true_iff, h0]
  all_goals omega

/-- R108 to R110: the checks name the lowest index whose field is out of its range. -/
theorem programChecks_spec (p : RawProgram) :
    (firstFailing (programChecks p) = none ↔ ∀ i, programFieldOk p i) ∧
      ∀ i, firstFailing (programChecks p) = some i ↔ ¬programFieldOk p i ∧ ∀ j, j < i → programFieldOk p j := by
  refine firstFailing_spec _ (programChecks_rise p) (fun c hc hlower => ?_) fun i hi => ?_
  · rcases List.mem_append.1 hc with hc | hc
    · exact mem_fieldChecks hc
    · obtain ⟨n, g, hg, hc⟩ := mem_stageChecks.1 hc
      rw [Nat.zero_add] at hc
      obtain ⟨f, h1, h6, hindex, hiff⟩ := mem_rawStageChecks hc
      rw [hindex] at hlower ⊢
      rw [programFieldOk_stage p h1 h6 hg]
      exact hiff fun f' hf' h1' => (programFieldOk_stage p h1' (by omega) hg).1 (hlower _ (by omega))
  · rw [programChecks, List.map_append, fieldChecks_indices, List.mem_append, List.mem_range'_1, not_or] at hi
    by_cases h0 : i = 0
    · subst h0
      intro n f g h
      omega
    · rw [programFieldOk_of_gt p i (by omega)]
      rintro n f g rfl h1 h6 hg
      refine absurd (List.mem_map.2 ?_) hi.2
      obtain ⟨k, rfl⟩ : ∃ k, f = k + 1 := ⟨f - 1, by omega⟩
      have hlen : k < (rawStageChecks g n).length := by simp [rawStageChecks]; omega
      refine ⟨(rawStageChecks g n)[k], mem_stageChecks.2 ⟨n, g, hg, by rw [Nat.zero_add]; exact List.getElem_mem hlen⟩, ?_⟩
      rw [← List.getElem_map Prod.fst (h := by simpa using hlen)]
      simp [rawStageChecks_indices]
      omega


/-! ### The record as stored (R109) -/

/-- A record that passes its checks has every field in its range. -/
theorem programFieldOk_of_passed {p : RawProgram} (h : firstFailing (programChecks p) = none) (i : Nat) :
    programFieldOk p i := (programChecks_spec p).1.1 h i

theorem stageFieldOk_of_passed {p : RawProgram} (h : firstFailing (programChecks p) = none) {n : Nat} {g : RawStage}
    (hg : p.stages[n]? = some g) {f : Nat} (h1 : 1 ≤ f) (h6 : f ≤ 6) : stageFieldOk g f :=
  (programFieldOk_stage p h1 h6 hg).1 (programFieldOk_of_passed h _)

theorem optional_toNat {w : Nat} (b : BitVec w) :
    optional b.toNat = if b = 0 then none else some b.toNat := by
  have h0 : b.toNat = 0 ↔ b = 0 := by rw [← BitVec.toNat_inj, BitVec.ofNat_eq_ofNat, BitVec.toNat_zero]
  simp only [optional, h0]

theorem byte_cases_one {b : Byte} (h : b.toNat ≤ 1) : b = 0 ∨ b = 1 := by bv_omega

/-- A stage's codes are stored as their values, its rate and its values as sent. -/
theorem storedStage_codes {g : RawStage} (h : ∀ f, 1 ≤ f → f ≤ 6 → stageFieldOk g f) :
    codeIn [.position, .force, .strain] (storedStage g).channel = g.channel ∧
      codeIn [.never, .target, .forceAbove, .forceBelow, .strainAbove, .displacementAbove, .stageTime, .yieldFound,
        .fmaxPassed] (storedStage g).end1.kind = g.kind1.setWidth 8 ∧
      codeIn [.never, .target, .forceAbove, .forceBelow, .strainAbove, .displacementAbove, .stageTime, .yieldFound,
        .fmaxPassed] (storedStage g).end2.kind = g.kind2.setWidth 8 := by
  have kind (k : BitVec 4) (hk : k.toNat ≤ 8) : codeIn [.never, .target, .forceAbove, .forceBelow, .strainAbove,
      .displacementAbove, .stageTime, .yieldFound, .fmaxPassed] ((endKindOf k).getD .never) = k.setWidth 8 := by
    have hnat : (k.setWidth 8).toNat = k.toNat := by
      rw [BitVec.toNat_setWidth, Nat.mod_eq_of_lt (by omega)]
    rw [endKindOf, EndKind.ofCode_eq_getElem?, ← hnat]
    exact codeIn_getElem?_getD (by decide) _ (by rw [hnat]; exact Nat.lt_succ_of_le hk)
  refine ⟨?_, kind _ (h 3 (by omega) (by omega)).1, kind _ (h 5 (by omega) (by omega)).1⟩
  rw [storedStage, Channel.ofCode_eq_getElem?]
  exact codeIn_getElem?_getD (by decide) _ (Nat.lt_succ_of_le (h 1 (by omega) (by omega)))

/-- The ranges of a stored end condition (section 6.1). -/
theorem storedEnd_ranges {k : BitVec 4} {w : Word32} (h : valueFits k w) :
    ((endKindOf k).getD .never = .forceAbove ∨ (endKindOf k).getD .never = .forceBelow →
      -5000000 ≤ w.toInt ∧ w.toInt ≤ 5000000) ∧
      ((endKindOf k).getD .never = .stageTime → 1 ≤ w.toInt ∧ w.toInt ≤ 86400000) := by
  have code (e : EndKind) (he : e ≠ .never) (hk : (endKindOf k).getD .never = e) : endKindOf k = some e := by
    cases hs : endKindOf k with
    | none => exact absurd (by simpa [hs] using hk.symm) he
    | some e' => simpa [hs] using hk
  refine ⟨?_, fun ht => ?_⟩
  · rintro (hk | hk)
    · exact h.1 (.inl (BitVec.toNat_inj.1 ((endKindOf_eq_some_iff k _).1 (code _ (by decide) hk))))
    · exact h.1 (.inr (BitVec.toNat_inj.1 ((endKindOf_eq_some_iff k _).1 (code _ (by decide) hk))))
  · obtain ⟨h1, h2⟩ := h.2 (BitVec.toNat_inj.1 ((endKindOf_eq_some_iff k _).1 (code _ (by decide) ht)))
    rw [BitVec.toInt_eq_toNat_of_lt (by omega)]
    omega

/-- The ranges of a stored stage (section 6.1). -/
theorem storedStage_ranges {g : RawStage} (h : ∀ f, 1 ≤ f → f ≤ 6 → stageFieldOk g f) :
    (-rateLimit (storedStage g).channel ≤ (storedStage g).rate ∧ (storedStage g).rate ≤ rateLimit (storedStage g).channel) ∧
      ((storedStage g).end1.kind = .target ∨ (storedStage g).end2.kind = .target → (storedStage g).rate ≠ 0) ∧
      ¬((storedStage g).end1.kind = .target ∧ (storedStage g).end2.kind = .target) ∧
      ∀ e ∈ [(storedStage g).end1, (storedStage g).end2],
        (e.kind = .forceAbove ∨ e.kind = .forceBelow → -5000000 ≤ e.value ∧ e.value ≤ 5000000) ∧
        (e.kind = .stageTime → 1 ≤ e.value ∧ e.value ≤ 86400000) := by
  have target (k : BitVec 4) : (endKindOf k).getD .never = .target ↔ k = 1 := by
    rw [← endKindOf_eq_target_iff]
    cases endKindOf k <;> simp
  obtain ⟨_, hrate1⟩ : _ ∧ ¬(g.kind1 = 1 ∧ g.rate = 0) := h 3 (by omega) (by omega)
  obtain ⟨_, hrate2, hboth⟩ : _ ∧ ¬(g.kind2 = 1 ∧ g.rate = 0) ∧ ¬(g.kind1 = 1 ∧ g.kind2 = 1) := h 5 (by omega) (by omega)
  have hchannel : g.channel.toNat ≤ 2 := h 1 (by omega) (by omega)
  obtain ⟨htop, hbottom⟩ : g.rate.toInt ≤ topRate g.channel ∧ -topRate g.channel ≤ g.rate.toInt :=
    h 2 (by omega) (by omega)
  refine ⟨?_, ?_, ?_, ?_⟩
  · have hlimit : rateLimit (storedStage g).channel = topRate g.channel := by
      unfold storedStage
      rcases channel_cases hchannel with hc | hc | hc <;> rw [hc] <;> rfl
    rw [hlimit]
    exact ⟨hbottom, htop⟩
  · rintro (hk | hk) h0
    · exact hrate1 ⟨(target _).1 hk, (toInt_eq_zero_iff _).1 h0⟩
    · exact hrate2 ⟨(target _).1 hk, (toInt_eq_zero_iff _).1 h0⟩
  · exact fun ⟨hk1, hk2⟩ => hboth ⟨(target _).1 hk1, (target _).1 hk2⟩
  · simp only [List.mem_cons, List.not_mem_nil, or_false]
    rintro e (rfl | rfl)
    · exact storedEnd_ranges (h 4 (by omega) (by omega))
    · exact storedEnd_ranges (h 6 (by omega) (by omega))

/-- A word with a default is stored within its range. -/
theorem valueOr_range {lo hi default : Nat} {w : Word32} (h : marked lo hi w) (hlo : lo ≤ default) (hhi : default ≤ hi) :
    lo ≤ valueOr default w ∧ valueOr default w ≤ hi := by
  unfold valueOr defaultMarker
  split
  · exact ⟨hlo, hhi⟩
  next hw => exact h.resolve_left hw

/-- The codes of a program's own fields are stored as their values. -/
theorem storedProgram_codes {p : RawProgram} (h : ∀ i, programFieldOk p i) :
    (storedProgram p).extLostAction = (if p.extLostAction = 1 then .hold else .continue) ∧
      (storedProgram p).holdMode = (if p.holdMode = 1 then .holdPosition else .holdChannel) ∧
      (storedProgram p).timersInHold = (if p.timersInHold = 1 then .stop else .run) ∧
      (storedProgram p).streamInHold = (if p.streamInHold = 1 then .stop else .run) ∧
      (storedProgram p).markerMode = (if p.markerMode = 2 then .recordToggle else if p.markerMode = 1 then .testLevel
        else .off) := by
  unfold storedProgram
  refine ⟨?_, ?_, ?_, ?_, ?_⟩
  · rcases byte_cases_one (h 3) with hc | hc <;> rw [hc] <;> rfl
  · rcases byte_cases_one (h 22) with hc | hc <;> rw [hc] <;> rfl
  · rcases byte_cases_one (h 23) with hc | hc <;> rw [hc] <;> rfl
  · rcases byte_cases_one (h 24) with hc | hc <;> rw [hc] <;> rfl
  · rcases channel_cases (h 25) with hc | hc | hc <;> rw [hc] <;> rfl

/-- The removal strain and the stage before which it is removed are absent where sent as 0. -/
theorem storedProgram_optional (p : RawProgram) :
    (storedProgram p).removalStrain = (if p.removalStrain = 0 then none else some (p.removalStrain.toNat : Int)) ∧
      (storedProgram p).removeBefore = if p.removeBefore = 0 then none else some p.removeBefore.toNat := by
  refine ⟨?_, optional_toNat _⟩
  rw [storedProgram, optional_toNat]
  split <;> rfl

theorem storedProgram_stages_getElem? (p : RawProgram) (n : Nat) :
    (storedProgram p).stages[n]? = p.stages[n]?.map storedStage := List.getElem?_map

/-- The fields of a record that has passed its checks lie in their ranges as stored. -/
theorem storedProgram_ranges {p : RawProgram} (h : ∀ i, programFieldOk p i) :
    (∀ n, (storedProgram p).removalStrain = some n → 1 ≤ n ∧ n ≤ 2000000) ∧
      (∀ n, (storedProgram p).removeBefore = some n → 1 ≤ n ∧ n < p.stageCount.toNat) ∧
      (0 ≤ (storedProgram p).fitLower ∧ (storedProgram p).fitLower < (storedProgram p).fitUpper ∧
        (storedProgram p).fitUpper ≤ 5000000) := by
  obtain ⟨hstrain, hbefore⟩ := storedProgram_optional p
  have pos {w : Nat} {b : BitVec w} (hb : b ≠ 0) : 1 ≤ b.toNat := by
    rw [Nat.one_le_iff_ne_zero]
    exact fun h0 => hb (BitVec.eq_of_toNat_eq (by simpa using h0))
  refine ⟨fun n hn => ?_, fun n hn => ?_, ?_⟩
  · have h4 : p.removalStrain.toNat ≤ 2000000 := h 4
    rw [hstrain] at hn
    split at hn
    · cases hn
    next h0 =>
      obtain rfl := Option.some.inj hn
      have := pos h0
      omega
  · have h6 : p.removeBefore = 0 ∨ p.removeBefore.toNat < p.stageCount.toNat := h 6
    rw [hbefore] at hn
    split at hn
    · cases hn
    next h0 =>
      obtain rfl := Option.some.inj hn
      exact ⟨pos h0, h6.resolve_left h0⟩
  · obtain ⟨h1, h2⟩ : p.fitLower.toNat < p.fitUpper.toNat ∧ p.fitUpper.toNat ≤ 5000000 := h 9
    simp only [storedProgram]
    omega

/-- The range of a field with a default, as the stored record holds it. -/
theorem valueOr_int_range {lo hi default : Nat} {w : Word32} (h : marked lo hi w) (hlo : lo ≤ default)
    (hhi : default ≤ hi) : (lo : Int) ≤ (valueOr default w : Nat) ∧ ((valueOr default w : Nat) : Int) ≤ hi := by
  obtain ⟨h1, h2⟩ := valueOr_range h hlo hhi
  omega

/-- Settles O14: the table of the checks, the stored fields, and their ranges. -/
theorem programsAreCheckedAndStoredAsSent : Obligations.ProgramsAreCheckedAndStoredAsSent := by
  refine ⟨programChecks_spec, fun p hp => ?_, fun p hp => ?_⟩
  · obtain ⟨hlost, hmode, htimers, hstream, hmarker⟩ := storedProgram_codes (programFieldOk_of_passed hp)
    obtain ⟨hstrain, hbefore⟩ := storedProgram_optional p
    refine ⟨⟨rfl, hlost, hstrain, rfl, hbefore⟩, ⟨rfl, rfl, rfl, rfl, rfl, rfl, rfl, rfl, rfl, rfl, rfl⟩,
      ⟨rfl, rfl, rfl, rfl, hmode, htimers, hstream, hmarker⟩, List.length_map .., fun n g h' hg hh => ?_⟩
    rw [storedProgram_stages_getElem?, hg] at hh
    obtain rfl := Option.some.inj hh
    obtain ⟨hchannel, hkind1, hkind2⟩ := storedStage_codes fun f h1 h6 => stageFieldOk_of_passed hp hg h1 h6
    exact ⟨hchannel, rfl, hkind1, rfl, hkind2, rfl⟩
  · have ok := programFieldOk_of_passed hp
    obtain ⟨hstrain, hbefore, hfit⟩ := storedProgram_ranges ok
    refine ⟨ok 1, hstrain, hbefore, valueOr_range (ok 7) (by decide) (by decide), hfit,
      valueOr_int_range (ok 10) (by decide) (by decide), valueOr_int_range (ok 11) (by decide) (by decide),
      valueOr_int_range (ok 12) (by decide) (by decide), valueOr_int_range (ok 13) (by decide) (by decide),
      valueOr_int_range (ok 14) (by decide) (by decide), valueOr_int_range (ok 15) (by decide) (by decide),
      valueOr_int_range (ok 16) (by decide) (by decide), valueOr_int_range (ok 17) (by decide) (by decide), ?_, ?_,
      fun g hg => ?_⟩
    · obtain ⟨h1, h2⟩ : 1 ≤ p.forceLimit.toNat ∧ p.forceLimit.toNat ≤ 2200000 := ok 18
      simp only [storedProgram]
      omega
    · obtain ⟨h1, h2⟩ : 1 ≤ p.returnSpeed.toNat ∧ p.returnSpeed.toNat ≤ 30000 := ok 21
      simp only [storedProgram]
      omega
    · obtain ⟨g', hg', rfl⟩ := List.mem_map.1 hg
      obtain ⟨n, hn⟩ := List.mem_iff_getElem?.1 hg'
      obtain ⟨hrate, hdwell, hboth, hends⟩ := storedStage_ranges fun f h1 h6 => stageFieldOk_of_passed hp hn h1 h6
      refine ⟨?_, hdwell, hboth, hends⟩
      cases hc : (storedStage g').channel <;> simpa [hc, rateLimit] using hrate

/-! ### LOAD_PROGRAM (R108) -/

theorem exec_loadProgram {s : State} (tag slot : Byte) (p : RawProgram) (hs : s.free) :
    exec (.loadProgram tag slot p) s =
      .next (answering 0x90 tag (handleLoadProgram slot (if p.agrees then some p else none) s)) :=
  request_perform s (.loadProgram ..) hs nofun

/-- The slot is that of the running copy of a test in progress (R108). -/
theorem slotInUse_iff (s : State) (slot : Nat) :
    s.slotInUse slot = true ↔
      (s.frame.state = .testing ∨ s.frame.state = .held) ∧ s.seq.running.map (·.slot) = some slot := by
  rw [State.slotInUse, Bool.and_eq_true, inTest_iff]
  cases s.seq.running <;> simp

/-- Settles O13: the slot, the slot in use, the length, and the checks of the record, in this order. -/
theorem loadProgramReplacesOneSlot : Obligations.LoadProgramReplacesOneSlot := by
  intro s tag slot p hs
  have hagrees : p.agrees = true ↔ p.stages.length = p.stageCount.toNat ∧ p.stageCount.toNat ≤ 12 := by
    simp [RawProgram.agrees]
  simp only [exec_loadProgram tag slot p hs, handleLoadProgram, slotInUse_iff, hagrees, Nat.succ_le_iff]
  split_ifs
  · rfl
  · rfl
  · dsimp only
    cases firstFailing (programChecks p) <;> rfl
  · rfl

end Sys2Proof.Machine
end

section
/-! Specimen records, the queue, the result list, and the checks of TEST_START (spec/08). -/

namespace Sys2Proof.Machine

/-! ### The requests at their block -/

section
variable {s : State} (tag : Byte)

theorem exec_addSpecimen (r : RawSpecimen) (hs : s.free) :
    exec (.addSpecimen tag r) s = .next (answering 0x91 tag (handleAddSpecimen r s)) :=
  request_perform s (.addSpecimen r) hs nofun

theorem exec_dropSpecimen (id : RawId) (hs : s.free) :
    exec (.dropSpecimen tag id) s = .next (answering 0x92 tag (handleDropSpecimen id s)) :=
  request_perform s (.dropSpecimen id) hs nofun

theorem exec_readQueue (first : Byte) (hs : s.free) :
    exec (.readQueue tag first) s = .next (answering 0x93 tag (handleReadQueue first s)) :=
  request_perform s (.readQueue first) hs nofun

theorem exec_testStart (hs : s.free) : exec (.testStart tag) s = .next (answering 0x94 tag (handleTestStart s)) :=
  request_perform s .testStart hs nofun

theorem exec_readResult (id : Option RawId) (hs : s.free) :
    exec (.readResult tag id) s = .next (answering 0x9A tag (handleReadResult id s)) :=
  request_perform s (.readResult id) hs nofun

theorem exec_deleteResult (id : RawId) (hs : s.free) :
    exec (.deleteResult tag id) s = .next (answering 0x9B tag (handleDeleteResult id s)) :=
  request_perform s (.deleteResult id) hs nofun

end

/-! ### IDs (R140) -/

/-- An ID field of sixteen places is 1 to 16 characters of code 0x20 to 0x7E. -/
theorem idOk_iff {id : RawId} (h : id.wf = true) :
    idOk id = true ↔ 1 ≤ id.length.toNat ∧ id.length.toNat ≤ 16 ∧
      ∀ b ∈ id.places.take id.length.toNat, 0x20 ≤ b.toNat ∧ b.toNat ≤ 0x7E := by
  have hplaces : id.places.length = 16 := by simpa [RawId.wf] using h
  have hlength : id.length.toNat ≤ 16 → (idChars id).length = id.length.toNat := by
    intro hle
    rw [idChars, List.length_take, hplaces]
    omega
  have hrange : within 1 16 id.length.toNat = true ↔ 1 ≤ id.length.toNat ∧ id.length.toNat ≤ 16 := by
    rw [within_iff]
    omega
  simp only [idOk, Bool.and_eq_true, hrange, decide_eq_true_iff, List.all_eq_true, printable]
  constructor
  · rintro ⟨⟨⟨h1, h16⟩, _⟩, hchars⟩
    exact ⟨h1, h16, hchars⟩
  · rintro ⟨h1, h16, hchars⟩
    exact ⟨⟨⟨h1, h16⟩, hlength h16⟩, hchars⟩

/-! ### Specimen records (R140, R141) -/

theorem Shape.ofCode_eq_getElem? (n : Nat) : Shape.ofCode n = [Shape.round, .rect, .given][n]? :=
  match n with
  | 0 | 1 | 2 | _ + 3 => rfl

theorem form64_of_fits {x : Int} (h : -9223372036854775808 ≤ x ∧ x ≤ 9223372036854775807) : form64 x = x := by
  rw [form64, if_pos]
  simp only [fits, decide_eq_true_iff]
  norm_num
  omega

/-- The cross-section of the shape's formula (R140). -/
def areaOf (shape : Byte) (dim1 dim2 : Nat) : Int :=
  if shape = 0 then roundDiv ((dim1 : Int) ^ 2 * 314159265) 400000000000
  else if shape = 1 then roundDiv ((dim1 : Int) * dim2) 1000 else dim1

/-- The largest first dimension of a shape's code (R140). -/
def topDim (shape : Byte) : Nat := if shape = 0 then 150000 else if shape = 1 then 1000000 else 10000000

/-- Within the ranges of the dimensions no product leaves 64 bits. -/
theorem crossSection_eq {r : RawSpecimen} (hshape : r.shape.toNat ≤ 2) (hdim1 : r.dim1.toNat ≤ topDim r.shape)
    (hdim2 : r.shape = 1 → r.dim2.toNat ≤ 1000000) :
    crossSection (shapeOf r) r.dim1.toNat r.dim2.toNat = areaOf r.shape r.dim1.toNat r.dim2.toNat := by
  rcases channel_cases hshape with hc | hc | hc
  · have hle : r.dim1.toNat ≤ 150000 := by simpa [topDim, hc] using hdim1
    have hsq : r.dim1.toNat * r.dim1.toNat ≤ 150000 * 150000 := Nat.mul_le_mul hle hle
    have hshape' : shapeOf r = .round := by rw [shapeOf, hc]; rfl
    rw [hshape', crossSection, form64_of_fits (by push_cast; omega), areaOf, if_pos hc]
    push_cast
    rw [pow_two]
  · have hle : r.dim1.toNat ≤ 1000000 := by simpa [topDim, hc] using hdim1
    have hmul : r.dim1.toNat * r.dim2.toNat ≤ 1000000 * 1000000 := Nat.mul_le_mul hle (hdim2 hc)
    have hshape' : shapeOf r = .rect := by rw [shapeOf, hc]; rfl
    rw [hshape', crossSection, form64_of_fits (by omega), areaOf, if_neg (by simp [hc]), if_pos hc]
    push_cast
    rfl
  · have hshape' : shapeOf r = .given := by rw [shapeOf, hc]; rfl
    rw [hshape', crossSection, areaOf, if_neg (by simp [hc]), if_neg (by simp [hc])]

/-- The field of a number lies in its range (R140). -/
def specimenFieldOk (r : RawSpecimen) : Nat → Prop
  | 1 => 1 ≤ r.id.length.toNat ∧ r.id.length.toNat ≤ 16 ∧
      ∀ b ∈ r.id.places.take r.id.length.toNat, 0x20 ≤ b.toNat ∧ b.toNat ≤ 0x7E
  | 2 => r.slot.toNat ≤ 3
  | 3 => r.shape.toNat ≤ 2
  | 4 => 1 ≤ r.dim1.toNat ∧ r.dim1.toNat ≤ topDim r.shape
  | 5 => r.shape = 1 → 1 ≤ r.dim2.toNat ∧ r.dim2.toNat ≤ 1000000
  | 6 => 10000 ≤ r.parallel.toNat ∧ r.parallel.toNat ≤ 1000000
  | 7 => 1 ≤ areaOf r.shape r.dim1.toNat r.dim2.toNat ∧ areaOf r.shape r.dim1.toNat r.dim2.toNat ≤ 10000000
  | _ => True

/-- The cross-section is checked as field 7, after the others (R141). -/
theorem specimenFailure_eq (r : RawSpecimen) : specimenFailure r =
    firstFailing (specimenChecks r ++ [(7, within 1 10000000 (crossSection (shapeOf r) r.dim1.toNat r.dim2.toNat))]) := by
  have append (cs : List (Nat × Bool)) (c : Nat × Bool) : firstFailing (cs ++ [c]) =
      match firstFailing cs with
      | some index => some index
      | none => if c.2 then none else some c.1 := by
    induction cs with
    | nil => rfl
    | cons c' cs ih => cases h : c'.2 <;> simp [firstFailing, h, ih]
  rw [append]
  rfl

/-- Each check of a specimen record decides its field once the lower ones have passed. -/
theorem mem_specimenChecks {r : RawSpecimen} (hwf : r.id.wf = true) {c : Nat × Bool}
    (hc : c ∈ specimenChecks r ++ [(7, within 1 10000000 (crossSection (shapeOf r) r.dim1.toNat r.dim2.toNat))])
    (hlower : ∀ j < c.1, specimenFieldOk r j) : c.2 = true ↔ specimenFieldOk r c.1 := by
  simp only [specimenChecks, List.cons_append, List.nil_append, List.mem_cons, List.not_mem_nil, or_false] at hc
  rcases hc with rfl | rfl | rfl | rfl | rfl | rfl | rfl
  · exact idOk_iff hwf
  · exact codeBelow_iff 3 _
  · rw [Shape.ofCode_eq_getElem?, isSome_getElem?]
    exact Nat.lt_succ_iff
  · have hshape : r.shape.toNat ≤ 2 := hlower 3 (by simp)
    rcases channel_cases hshape with hc | hc | hc <;>
      simp [hc, specimenFieldOk, topDim, Shape.ofCode, within_iff, firstLimit]
  · have hshape : r.shape.toNat ≤ 2 := hlower 3 (by simp)
    rcases channel_cases hshape with hc | hc | hc <;>
      simp [hc, specimenFieldOk, Shape.ofCode, within_iff]
  · exact within_toNat_iff 10000 1000000 _
  · rw [crossSection_eq (hlower 3 (by simp)) (hlower 4 (by simp)).2 fun h => (hlower 5 (by simp) h).2]
    exact within_iff ..

/-- R140 and R141: the checks name the lowest field number out of its range. -/
theorem specimenFailure_spec {r : RawSpecimen} (hwf : r.id.wf = true) :
    (specimenFailure r = none ↔ ∀ i, specimenFieldOk r i) ∧
      ∀ i, specimenFailure r = some i ↔ ¬specimenFieldOk r i ∧ ∀ j, j < i → specimenFieldOk r j := by
  rw [specimenFailure_eq]
  refine firstFailing_spec _ (List.pairwise_lt_range' (s := 1) (n := 7)) (fun c hc hlower => mem_specimenChecks hwf hc hlower)
    fun i hi => ?_
  change i ∉ List.range' 1 7 at hi
  rw [List.mem_range'_1] at hi
  obtain rfl | ⟨n, rfl⟩ : i = 0 ∨ ∃ n, i = n + 8 := by
    by_cases h0 : i = 0
    · exact .inl h0
    · exact .inr ⟨i - 8, by omega⟩
  · trivial
  · trivial

theorem holdsId_iff (r : Records) (id : List Byte) : r.holdsId id = true ↔
    id ∈ r.queue.map (·.id) ∨ id ∈ r.test.toList.map (·.specimen.id) ∨ id ∈ r.results.map (·.id) := by
  cases h : r.test <;> simp [Records.holdsId, h, or_assoc, eq_comm (a := id)]

/-- Settles O16: the table of the fields, the stored record, and the checks of the request in their order. -/
theorem addSpecimenJoinsTheQueueWithinItsRanges : Obligations.AddSpecimenJoinsTheQueueWithinItsRanges := by
  constructor
  · intro r hwf ok
    refine ⟨(specimenFailure_spec hwf).1, (specimenFailure_spec hwf).2, fun hpass => ?_⟩
    have hok := (specimenFailure_spec hwf).1.1 hpass
    have hshape : r.shape.toNat ≤ 2 := hok 3
    have harea := crossSection_eq hshape (hok 4).2 fun h => (hok 5 h).2
    refine ⟨rfl, rfl, ?_, rfl, rfl, rfl, ?_⟩
    · rw [storedSpecimen, shapeOf, Shape.ofCode_eq_getElem?]
      exact codeIn_getElem?_getD (by decide) _ (Nat.lt_succ_of_le hshape)
    · have h7 := (hok 7).1
      simp only [storedSpecimen, harea]
      rw [Int.toNat_of_nonneg (by omega)]
      rfl
  · intro s tag r hs x
    rw [exec_addSpecimen tag r hs, handleAddSpecimen]
    cases specimenFailure r with
    | some index => rfl
    | none =>
      simp only [holdsId_iff]
      split_ifs <;> rfl

/-! ### The queue (R143, R144) -/

/-- The first entry of a list with the ID is taken out. -/
theorem eraseP_of_first {α : Type} {p : α → Bool} {before after : List α} {x : α} (hx : p x = true)
    (hb : ∀ y ∈ before, ¬p y = true) : (before ++ x :: after).eraseP p = before ++ after := by
  rw [List.eraseP_append_right _ hb, List.eraseP_cons_of_pos hx]

/-- Settles O17: the ID's check, the record taken out, and at most six records sent. -/
theorem dropSpecimenAndReadQueue : Obligations.DropSpecimenAndReadQueue := by
  refine ⟨fun id h => idOk_iff h, ?_, ?_, ?_, ?_⟩
  · intro s tag id before after x hs hid hq hx hb
    have herase := eraseP_of_first (p := fun y : Specimen => decide (y.id = idChars id)) (after := after)
      (decide_eq_true hx) (fun y hy => by simpa using hb y hy)
    have hany : ((before ++ x :: after).any fun y => decide (y.id = idChars id)) = true :=
      List.any_eq_true.2 ⟨x, by simp, decide_eq_true hx⟩
    simp only [exec_dropSpecimen tag id hs, handleDropSpecimen, hid, hq, hany, herase]
    rfl
  · intro s tag id hs hid hq
    have hany : (s.recs.queue.any fun y => decide (y.id = idChars id)) = false := by simpa using hq
    simp only [exec_dropSpecimen tag id hs, handleDropSpecimen, hid, hany]
    rfl
  · intro s tag id hs hid
    simp only [exec_dropSpecimen tag id hs, handleDropSpecimen, hid]
    rfl
  · intro s tag first hs
    rw [exec_readQueue tag first hs, handleReadQueue]
    have hbytes : Specimen.bytes = fun x : Specimen =>
        BitVec.ofNat 8 x.id.length :: (x.id ++ List.replicate (16 - x.id.length) 0) ++
          [BitVec.ofNat 8 x.slot, match x.shape with | .round => 0 | .rect => 1 | .given => 2] ++
          bytes32 (unsigned32 x.dim1) ++ bytes32 (unsigned32 x.dim2) ++ bytes32 (unsigned32 x.parallel) ++
          bytes32 (unsigned32 x.s0) := by
      funext x
      rw [Specimen.bytes]
      cases x.shape <;> rfl
    split_ifs
    · rfl
    · rw [hbytes]
      rfl


/-! ### The result list (R151, R152) -/

/-- A reason's code and then zeros stand for an absent part. -/
theorem partBytes_present {α : Type} (x : α) (values : α → List Int) (size : Nat) :
    partBytes (.present x) values size = 0 :: (values x).flatMap fun v => bytes32 (signed32 v) := rfl

theorem partBytes_absent {α : Type} (why : Reason) (values : α → List Int) (size : Nat) :
    partBytes (.absent why) values size = why.code :: List.replicate size 0 := rfl

/-- A part takes one byte and its values, present or absent. -/
theorem length_partBytes {α : Type} (x : Part α) (values : α → List Int) (size : Nat)
    (h : ∀ y, 4 * (values y).length = size) : (partBytes x values size).length = size + 1 := by
  cases x with
  | present y =>
    have hlen : ∀ vs : List Int, (vs.flatMap fun v => bytes32 (signed32 v)).length = 4 * vs.length := by
      intro vs
      induction vs with
      | nil => rfl
      | cons v vs ih => rw [List.flatMap_cons, List.length_append, ih, List.length_cons]; simp [bytes32]; omega
    rw [partBytes_present, List.length_cons, hlen, h]
  | absent why => simp [partBytes_absent]

theorem length_removalBytes (x : Option Int) : (removalBytes x).length = 5 := by cases x <;> rfl

/-- A result record has 115 bytes (section 11.6). -/
theorem length_resultBytes (r : Result) (h : r.id.length ≤ 16) : r.bytes.length = 115 := by
  have hid : (idField r.id).length = 17 := by simp [idField]; omega
  have h32 (w : Word32) : (bytes32 w).length = 4 := rfl
  have h64 (w : BitVec 64) : (bytes64 w).length = 8 := rfl
  have hcount (n : Nat) : (bytesCount n).length = 2 := rfl
  simp only [Result.bytes, List.length_append, List.length_cons, List.length_nil, hid, h32, h64, hcount,
    length_partBytes r.maxForce (fun x => [x.fmax, x.rm, x.agt]) 12 fun _ => rfl,
    length_partBytes r.upperYield (fun x => [x.force, x.stress]) 8 fun _ => rfl,
    length_partBytes r.lowerYield (fun x => [x.force, x.stress]) 8 fun _ => rfl,
    length_partBytes r.plateau (fun x => [x]) 4 fun _ => rfl,
    length_partBytes r.offsetYield (fun x => [x.force, x.stress]) 8 fun _ => rfl,
    length_partBytes r.modulus (fun x => [x]) 4 fun _ => rfl,
    length_partBytes r.breakPart (fun x => [x.force, x.d, x.strain]) 12 fun _ => rfl, length_removalBytes]

/-- An outcome's code is its place among the outcomes. -/
theorem outcome_code (o : TestOutcome) : BitVec.ofNat 8 o.code =
    codeIn [.completedBreak, .completedNoBreak, .endedByWatch, .aborted, .testFault, .frameFault, .reset] o := by
  cases o <;> rfl

/-- A result of a list that holds one with the ID. -/
theorem find?_of_first {α : Type} {p : α → Bool} {before after : List α} {x : α} (hx : p x = true)
    (hb : ∀ y ∈ before, ¬p y = true) : (before ++ x :: after).find? p = some x := by
  rw [List.find?_append, List.find?_eq_none.2 hb, List.find?_cons_of_pos hx]
  rfl

/-- READ_RESULT over a list that is not empty, with an ID. -/
theorem handleReadResult_some {s : State} (id : RawId) (h : s.recs.results ≠ []) :
    handleReadResult (some id) s =
      if idOk id = false then (.refuse .badValue 1, s)
      else match s.recs.results.find? fun r => r.id = idChars id with
        | some r => (.ok r.bytes, s)
        | none => (.refuse .notFound 0, s) := by
  obtain ⟨r, rest, hr⟩ := List.exists_cons_of_ne_nil h
  unfold handleReadResult
  rw [hr] <;> rfl

/-- DELETE_RESULT over a list that is not empty. -/
theorem handleDeleteResult_of_ne_nil {s : State} (id : RawId) (h : s.recs.results ≠ []) :
    handleDeleteResult id s =
      if idOk id = false then (.refuse .badValue 1, s)
      else if s.recs.results.any fun r => r.id = idChars id then
        (.ok [BitVec.ofNat 8 (s.recs.results.eraseP fun r => r.id = idChars id).length],
          s.onRecs fun q => { q with results := s.recs.results.eraseP fun r => r.id = idChars id })
      else (.refuse .notFound 0, s) := by
  rw [handleDeleteResult, if_neg h]

/-- Settles O18: each answer over an empty list and one that is not, and the layout of a result. -/
theorem resultsAreReadAndDeleted : Obligations.ResultsAreReadAndDeleted := by
  refine ⟨fun id h => idOk_iff h, ?_, ?_, ?_, ?_, ?_, ?_, ?_⟩
  · intro s tag id hs h
    simp only [exec_readResult tag id hs, handleReadResult, h]
    rfl
  · intro s tag r rest hs h
    simp only [exec_readResult tag none hs, handleReadResult, h]
    rfl
  · intro s tag id before after r hs hid hq hr hb
    have hne : s.recs.results ≠ [] := by simp [hq]
    have hp : decide (r.id = idChars id) = true := decide_eq_true hr
    have hb' : ∀ x ∈ before, ¬decide (x.id = idChars id) = true := fun x hx => by simpa using hb x hx
    have hfind := find?_of_first (p := fun x : Result => decide (x.id = idChars id)) (after := after) hp hb'
    have herase := eraseP_of_first (p := fun x : Result => decide (x.id = idChars id)) (after := after) hp hb'
    have hany : ((before ++ r :: after).any fun x => decide (x.id = idChars id)) = true :=
      List.any_eq_true.2 ⟨r, by simp, hp⟩
    constructor
    · simp only [exec_readResult tag _ hs, handleReadResult_some id hne, hid, hq, hfind]
      rfl
    · simp only [exec_deleteResult tag id hs, handleDeleteResult_of_ne_nil id hne, hid, hq, hany, herase]
      rfl
  · intro s tag id hs hid hne hq
    have hfind : (s.recs.results.find? fun x => decide (x.id = idChars id)) = none :=
      List.find?_eq_none.2 fun x hx => by simpa using hq x hx
    have hany : (s.recs.results.any fun x => decide (x.id = idChars id)) = false := by simpa using hq
    constructor
    · simp only [exec_readResult tag _ hs, handleReadResult_some id hne, hid, hfind]
      rfl
    · simp only [exec_deleteResult tag id hs, handleDeleteResult_of_ne_nil id hne, hid, hany]
      rfl
  · intro s tag id hs hid hne
    constructor
    · simp only [exec_readResult tag _ hs, handleReadResult_some id hne, hid]
      rfl
    · simp only [exec_deleteResult tag id hs, handleDeleteResult_of_ne_nil id hne, hid]
      rfl
  · intro s tag id hs h
    simp only [exec_deleteResult tag id hs, handleDeleteResult, h]
    rfl
  · intro r field two byte why yield single
    refine ⟨?_, length_resultBytes r⟩
    have hyield (x : Part ForceStress) : partBytes x (fun x => [x.force, x.stress]) 8 = yield x := by
      cases x with
      | present y => simp [partBytes_present, yield, field]
      | absent y => cases y <;> rfl
    have hsingle (x : Part Int) : partBytes x (fun x => [x]) 4 = single x := by
      cases x with
      | present y => simp [partBytes_present, single, field]
      | absent y => cases y <;> rfl
    have append {a a' b b' : List Byte} (h : a = a') (h' : b = b') : a ++ b = a' ++ b' := h ▸ h' ▸ rfl
    rw [Result.bytes, outcome_code]
    refine append (append (append (append (append (append (append (append rfl ?_) (hyield _)) (hyield _)) (hsingle _))
      (hyield _)) (hsingle _)) ?_) ?_
    · cases r.maxForce with
      | present y => simp [partBytes_present, field]
      | absent y => cases y <;> rfl
    · cases r.breakPart with
      | present y => simp [partBytes_present, field]
      | absent y => cases y <;> rfl
    · cases r.removalStrain <;> rfl

/-! ### The checks of TEST_START (R145) -/

theorem uses_iff (p : Program) (c : Channel) :
    p.uses c = true ↔ (∃ x ∈ p.stages, x.channel = c) ∨ c = .position ∧ p.holdMode = .holdPosition := by
  simp [Program.uses]

/-- Settles O19: the first check that fails gives the refusal. -/
theorem testStartIsCheckedInOrder : Obligations.TestStartIsCheckedInOrder := by
  constructor
  · intro f p lacks
    have hlacks (c : Channel) (g : Gains) : (p.uses c = true ∧ g.kp = 0) ↔ lacks c g := by rw [uses_iff]
    simp only [missingGain, hlacks]
    refine ⟨fun h => if_pos h, fun h h' => ?_, fun h h' h'' => ?_, fun h h' h'' => ?_⟩
    · rw [if_neg h, if_pos h']
    · rw [if_neg h, if_neg h', if_pos h'']
    · rw [if_neg h, if_neg h', if_neg h'']
  · intro s tag hs
    rw [exec_testStart tag hs, handleTestStart]
    refine ⟨fun hr => ?_, fun hr hq => ?_, fun head rest hr hq => ⟨fun hl => ?_, fun hl hslot => ?_, fun p hl hslot =>
      ⟨fun detail hg => ?_, fun hg he hz => ?_⟩⟩⟩
    · rw [State.startCheck, if_pos hr]
      rfl
    · rw [State.startCheck, if_neg (not_not.2 hr), hq]
      rfl
    · simp only [State.startCheck, if_neg (not_not.2 hr), hq, if_pos hl]
      rfl
    · have hjoin : s.seq.slots[head.slot]?.join = none := by
        cases h : s.seq.slots[head.slot]? with
        | none => rfl
        | some x =>
          cases x with
          | none => rfl
          | some p => exact absurd h (hslot p)
      simp only [State.startCheck, if_neg (not_not.2 hr), hq, if_neg (Nat.not_le.2 hl), hjoin]
      rfl
    · simp only [State.startCheck, if_neg (not_not.2 hr), hq, if_neg (Nat.not_le.2 hl), hslot, Option.join_some, hg]
      rfl
    · simp only [State.startCheck, if_neg (not_not.2 hr), hq, if_neg (Nat.not_le.2 hl), hslot, Option.join_some, hg,
        if_pos (And.intro he hz)]
      rfl

end Sys2Proof.Machine
end

section
/-! The event table (spec/10): what an occurrence records and which effect it takes, and the requests of the table. -/

namespace Sys2Proof.Machine

/-! ### The requests at their block -/

section
variable {s : State} (tag : Byte)

theorem exec_setReporting (kinds : Word32) (hs : s.free) :
    exec (.setReporting tag kinds) s = .next (answering 0xA0 tag (handleSetReporting kinds s)) :=
  request_perform s (.setReporting kinds) hs nofun

theorem exec_setSeverity (kind severity : Byte) (hs : s.free) :
    exec (.setSeverity tag kind severity) s = .next (answering 0xA1 tag (handleSetSeverity kind severity s)) :=
  request_perform s (.setSeverity kind severity) hs nofun

theorem exec_readEvents (hs : s.free) : exec (.readEvents tag) s = .next (answering 0xA2 tag (handleReadEvents s)) :=
  request_perform s .readEvents hs nofun

theorem exec_clearEvents (kinds : Word32) (hs : s.free) :
    exec (.clearEvents tag kinds) s = .next (answering 0xA3 tag (handleClearEvents kinds s)) :=
  request_perform s (.clearEvents kinds) hs nofun

theorem exec_injectEvent (kind : Byte) (hs : s.free) :
    exec (.injectEvent tag kind) s = .next (answering 0xA4 tag (handleInjectEvent kind s)) :=
  request_perform s (.injectEvent kind) hs nofun

end

/-! ### An occurrence (R178 to R183) -/

/-- Settles O24: both branches of the record. -/
theorem occurrencesAreRecordedAndCoalesced : Obligations.OccurrencesAreRecordedAndCoalesced := by
  intro s k detail cls
  refine ⟨fun h => ⟨?_, ?_⟩, fun r h => ⟨?_, ?_⟩, fun j hj => record_record_ne s hj detail cls, record_enabled ..,
    record_severities .., ?_⟩
  · rw [record_record_self, Events.oneMore, h]
  · rw [record_eq, h]
    simp only [EventKind.inSet, Bool.or_eq_true, decide_eq_true_iff]
    split_ifs <;> rfl
  · rw [record_record_self, Events.oneMore, h]
    dsimp only
    congr 2
    split_ifs <;> omega
  · rw [record_eq, h]
  · rw [record_eq]
    cases s.events.record k with
    | none => dsimp only; split_ifs <;> rfl
    | some r => rfl

/-- The classes of the kinds by their codes (section 10.1). -/
theorem classOf_of_code_le_twelve (s : State) {k : EventKind} (h : k.code.val ≤ 12) : s.classOf k = .info := by
  cases k <;> simp_all [EventKind.code]

theorem classOf_of_code_le_nineteen (s : State) {k : EventKind} (h : 13 ≤ k.code.val) (h' : k.code.val ≤ 19) :
    s.classOf k = .warning := by
  cases k <;> simp_all [EventKind.code]

theorem classOf_of_le_code (s : State) {k : EventKind} (h : 26 ≤ k.code.val) : s.classOf k = .frameFault := by
  cases k <;> simp_all [EventKind.code]

theorem exec_eventOccurrence (s : State) (k : EventKind) (detail : Word32) :
    exec (.eventOccurrence k detail) s = .next (s.raise k detail).transmit := rfl

/-- A kind whose severity can be set takes the effect of its severity (R177, R182). -/
theorem raise_of_severity (s : State) (k : EventKind) (d : Word32) (v : Severity) (h : s.classOf k = v.toClass) :
    s.raise k d =
      if v = .warning then s.record k d .warning
      else if s.frame.state = .testing ∨ s.frame.state = .held then
        (s.record k d .testFault).endTest .testFault k.code.val
      else s.record k d .testFault := by
  cases v with
  | warning => rw [raise_of_mild s k d (.inr h), h]; rfl
  | testFault => rw [raise_of_testFault s d k h]; simp only [inTest_iff]; rfl

/-- An occurrence of class FRAME_FAULT (R14, R15, R183). -/
theorem raise_of_fault_eq (s : State) (k : EventKind) (d : Word32) (h : s.classOf k = .frameFault) :
    s.raise k d =
      if s.frame.state = .undefined then s.record k d .frameFault
      else if s.frame.state = .testing ∨ s.frame.state = .held then
        ((s.record k d .frameFault).onFrame (·.enterFault k d s.clock)).endTest .frameFault k.code.val
      else (s.record k d .frameFault).onFrame (·.enterFault k d s.clock) := by
  rw [raise_of_frameFault s d k h, State.frameFault]
  simp only [record_frame, record_clock, record_inTest, inTest_iff]

/-- The frame that a recorded FRAME_FAULT leaves (R14, R15). -/
theorem record_onFrame_enterFault (s : State) (k : EventKind) (d : Word32) (c : EventClass) (time : Word32) :
    (s.record k d c).onFrame (·.enterFault k d time) = { s.record k d c with frame := { s.frame with
      state := .faulted, driveTimer := none, move := none,
      firstCause := if s.frame.state = .faulted then s.frame.firstCause
        else some { kind := k, detail := d, time := time },
      causeSet := if s.frame.state ≠ .faulted then [k]
        else if k ∈ s.frame.causeSet then s.frame.causeSet else s.frame.causeSet ++ [k] } } := by
  rw [State.onFrame, Frame.enterFault, record_frame]
  simp only [ite_not]

/-- Settles O25: the class of each kind, and the effect of each class. -/
theorem occurrencesTakeTheEffectOfTheirClass : Obligations.OccurrencesTakeTheEffectOfTheirClass := by
  intro s k detail
  simp only [exec_eventOccurrence]
  refine ⟨trivial, fun h => ?_, fun h h' => ?_, fun v hv => ?_, fun h => ?_, fun h => ?_⟩
  · rw [raise_of_mild s k detail (.inl (classOf_of_code_le_twelve s h)), classOf_of_code_le_twelve s h]
  · rw [raise_of_mild s k detail (.inr (classOf_of_code_le_nineteen s h h')), classOf_of_code_le_nineteen s h h']
  · have hclass : s.classOf k = v.toClass := by
      rcases hv with ⟨rfl, rfl⟩ | ⟨rfl, rfl⟩ | ⟨rfl, rfl⟩ | ⟨rfl, rfl⟩ <;> rfl
    rw [raise_of_severity s k detail v hclass]
    split_ifs <;> rfl
  · have hclass : s.classOf k = .testFault := by rcases h with rfl | rfl <;> rfl
    rw [raise_of_testFault s detail k hclass]
    simp only [inTest_iff]
    split_ifs <;> rfl
  · rw [raise_of_fault_eq s k detail (classOf_of_le_code s h), record_onFrame_enterFault]
    split_ifs <;> rfl

/-! ### SET_REPORTING, SET_SEVERITY and INJECT_EVENT (R185, R186, R189) -/

/-- The bit of code 31 is the sign bit. -/
theorem getLsbD_31_iff (w : Word32) : w.getLsbD 31 = true ↔ 2147483648 ≤ w.toNat := by
  have h := BitVec.msb_eq_decide w
  rw [BitVec.msb_eq_getLsbD_last] at h
  rw [h, decide_eq_true_iff]

theorem settableOf_eq (n : Nat) :
    settableOf n = if n = 20 then some .extGap else if n = 21 then some .extLost
      else if n = 22 then some .extRemovalTimeout else if n = 23 then some .travelLimit else none := by
  by_cases h : n < 31
  · interval_cases n <;> rfl
  · have hnone : EventKind.ofCode n = none := List.getElem?_eq_none (by simpa [EventKind.all] using h)
    rw [settableOf, hnone, if_neg (by omega), if_neg (by omega), if_neg (by omega), if_neg (by omega)]
    rfl

theorem ofCode_code (k : EventKind) : EventKind.ofCode k.code.val = some k := by cases k <;> rfl

/-- The severity that a class code names. -/
theorem severityOfCode_eq (b : Byte) :
    Severity.ofCode b.toNat = if b = 1 ∨ b = 2 then some (if b = 2 then .testFault else .warning) else none := by
  have h1 : b = 1 ↔ b.toNat = 1 := BitVec.toNat_inj.symm
  have h2 : b = 2 ↔ b.toNat = 2 := BitVec.toNat_inj.symm
  simp only [h1, h2]
  match b.toNat with
  | 0 | 1 | 2 => rfl
  | n + 3 => rw [if_neg (by omega)]; rfl

/-- Settles O26: each request goes through its checks. -/
theorem reportingSeverityAndInjection : Obligations.ReportingSeverityAndInjection := by
  refine ⟨fun s tag kinds hs => ?_, ?_, fun s tag kind hs h => ?_, fun s tag k hs => ?_⟩
  · simp only [exec_setReporting tag kinds hs, handleSetReporting, getLsbD_31_iff]
    split_ifs <;> rfl
  · intro s tag kind severity hs x
    have hk (n : Nat) (hn : n < 256) : kind = BitVec.ofNat 8 n ↔ kind.toNat = n := by
      rw [← BitVec.toNat_inj, BitVec.toNat_ofNat, Nat.mod_eq_of_lt hn]
    have h20 : kind = 20 ↔ kind.toNat = 20 := hk 20 (by decide)
    have h21 : kind = 21 ↔ kind.toNat = 21 := hk 21 (by decide)
    have h22 : kind = 22 ↔ kind.toNat = 22 := hk 22 (by decide)
    have h23 : kind = 23 ↔ kind.toNat = 23 := hk 23 (by decide)
    simp only [exec_setSeverity tag kind severity hs, handleSetSeverity, settableOf_eq, severityOfCode_eq, h20, h21, h22,
      h23]
    generalize kind.toNat = n
    by_cases hn : 20 ≤ n ∧ n ≤ 23
    · rw [if_neg (not_not.2 hn)]
      by_cases hsev : severity = 1 ∨ severity = 2
      · rw [if_neg (not_not.2 hsev)]
        obtain ⟨hlo, hhi⟩ := hn
        interval_cases n <;> simp only [if_pos hsev] <;> rfl
      · rw [if_pos hsev]
        obtain ⟨hlo, hhi⟩ := hn
        interval_cases n <;> simp only [if_neg hsev] <;> rfl
    · rw [if_pos hn, if_neg (by omega), if_neg (by omega), if_neg (by omega), if_neg (by omega)]
      rfl
  · have hnone : EventKind.ofCode kind.toNat = none := List.getElem?_eq_none h
    rw [exec_injectEvent tag kind hs, handleInjectEvent, hnone]
    rfl
  · have hcode : (BitVec.ofNat 8 k.code.val).toNat = k.code.val := by
      rw [BitVec.toNat_ofNat, Nat.mod_eq_of_lt (by have := k.code.isLt; omega)]
    rw [exec_injectEvent tag _ hs, handleInjectEvent, hcode, ofCode_code]
    rfl

/-! ### READ_EVENTS and CLEAR_EVENTS (R187, R188) -/

/-- A set of kinds as it is sent carries the bits of its members' codes. -/
theorem getLsbD_kindSet (ks : List EventKind) (k : EventKind) :
    (kindSet ks).getLsbD k.code.val = decide (k ∈ ks) := by
  have bit (j : EventKind) : (BitVec.ofNat 32 (2 ^ j.code.val)).getLsbD k.code.val = decide (k = j) := by
    have hk : k.code.val < 32 := by have := k.code.isLt; omega
    rw [BitVec.getLsbD_ofNat, Nat.testBit_two_pow, decide_eq_true hk, Bool.true_and]
    exact decide_eq_decide.2 (eq_comm.trans EventKind.code_inj)
  have fold (acc : Word32) : (ks.foldl (fun acc k => acc ||| BitVec.ofNat 32 (2 ^ k.code.val)) acc).getLsbD k.code.val =
      (acc.getLsbD k.code.val || decide (k ∈ ks)) := by
    induction ks generalizing acc with
    | nil => simp
    | cons j ks ih => rw [List.foldl_cons, ih, BitVec.getLsbD_or, bit]; simp [Bool.or_assoc]
  rw [kindSet, fold, BitVec.ofNat_eq_ofNat, BitVec.getLsbD_zero, Bool.false_or]

theorem getLsbD_pendingSet (e : Events) (k : EventKind) : e.pendingSet.getLsbD k.code.val = (e.record k).isSome := by
  rw [Events.pendingSet, getLsbD_kindSet]
  simp [EventKind.mem_all]

/-- The kinds stand in the order of their codes. -/
theorem all_pairwise : EventKind.all.Pairwise fun a b => a.code.val < b.code.val := by decide

theorem all_filterMap_record (e : Events) :
    EventKind.all.filterMap e.record = (EventKind.all.filter fun k => (e.record k).isSome).filterMap e.record := by
  rw [List.filterMap_filter]
  congr 1
  funext k
  cases e.record k <;> rfl

/-- What CLEAR_EVENTS leaves of the table but its records. -/
theorem clear_settings (e : Events) (kinds : Word32) :
    (e.clear kinds).enabled = e.enabled ∧ (e.clear kinds).severities = e.severities := by
  have fold (ks : List EventKind) (e' : Events) :
      (ks.foldl (fun t k => if k.inSet kinds then t.put k none else t) e').enabled = e'.enabled ∧
        (ks.foldl (fun t k => if k.inSet kinds then t.put k none else t) e').severities = e'.severities := by
    induction ks generalizing e' with
    | nil => exact ⟨rfl, rfl⟩
    | cons k ks ih =>
      obtain ⟨he, hsev⟩ := ih (if k.inSet kinds then e'.put k none else e')
      rw [List.foldl_cons, he, hsev]
      split_ifs <;> exact ⟨rfl, rfl⟩
  exact fold _ e

/-- Settles O27: the reply's fields, the cleared table, the pending set, the carried records and their bytes. -/
theorem eventsAreReadAndCleared : Obligations.EventsAreReadAndCleared := by
  refine ⟨fun s tag hs => exec_readEvents tag hs, fun s tag kinds hs h => ?_, fun s tag kinds hs h => ?_,
    getLsbD_pendingSet, fun e => ?_, fun r => ⟨?_, rfl⟩, fun v => ?_⟩
  · rw [exec_clearEvents tag kinds hs, handleClearEvents, if_pos ((getLsbD_31_iff kinds).2 h)]
    rfl
  · refine ⟨s.events.clear kinds, ?_, (clear_settings s.events kinds).1, (clear_settings s.events kinds).2,
      Events.record_clear s.events kinds⟩
    rw [exec_clearEvents tag kinds hs, handleClearEvents, if_neg (by rw [getLsbD_31_iff]; omega)]
    rfl
  · refine ⟨EventKind.all.filter fun k => (e.record k).isSome, all_pairwise.filter _, fun k => ?_, ?_⟩
    · simp [EventKind.mem_all]
    · rw [Events.carried, all_filterMap_record]
  · unfold Occurred.bytes
    cases r.cls <;> rfl
  · unfold Severities.byte
    cases v.extGap <;> cases v.extLost <;> cases v.extRemovalTimeout <;> cases v.travelLimit <;> rfl

end Sys2Proof.Machine
end

section
/-! The running copy (spec/06, section 6.2), the end of a test (section 6.4), abort and hold (spec/07, spec/08). -/

namespace Sys2Proof.Machine

/-! ### The running copy (R111, R112) -/

/-- The conversion of an end condition's value by its kind and its stage's channel (R111). -/
theorem convertedValue_spec (g : Stage) (e : EndCondition) (s0 startPos : Int) :
    (e.kind = .forceAbove ∨ e.kind = .forceBelow →
      convertedValue g.channel e s0 startPos = roundDiv (form64 (e.value * s0)) 1000) ∧
    (e.kind = .target → g.channel = .position → convertedValue g.channel e s0 startPos = e.value + startPos) ∧
    (e.kind = .target → g.channel = .force →
      convertedValue g.channel e s0 startPos = roundDiv (form64 (e.value * s0)) 1000) ∧
    (e.kind = .target → g.channel = .strain → convertedValue g.channel e s0 startPos = e.value) ∧
    (e.kind ≠ .target → e.kind ≠ .forceAbove → e.kind ≠ .forceBelow →
      convertedValue g.channel e s0 startPos = e.value) := by
  unfold convertedValue
  refine ⟨?_, fun hk hc => ?_, fun hk hc => ?_, fun hk hc => ?_, fun h1 h2 h3 => ?_⟩
  · rintro (hk | hk) <;> rw [hk] <;> rfl
  · rw [hk, hc]
  · rw [hk, hc]; rfl
  · rw [hk, hc]
  · cases hk : e.kind <;> simp_all

/-- A rate limited to vmax keeps its sign (R112). -/
theorem clampRate_spec {vmax : Int} (hv : 0 ≤ vmax) (rate : Int) :
    (clampRate vmax rate).natAbs ≤ vmax.natAbs ∧ (rate.natAbs ≤ vmax.natAbs → clampRate vmax rate = rate) ∧
      (vmax < rate → clampRate vmax rate = vmax) ∧ (rate < -vmax → clampRate vmax rate = -vmax) := by
  unfold clampRate limit
  split_ifs <;> omega

/-- Settles O21: the conversion of the rate by its channel, and of both end conditions. -/
theorem runningCopyIsConverted : Obligations.RunningCopyIsConverted := by
  constructor
  · intro g s0 startPos vmax hv c force converted
    refine ⟨rfl, fun hc => ?_, fun hc => ?_, fun hc => ?_, ⟨rfl, convertedValue_spec g g.end1 s0 startPos⟩,
      rfl, convertedValue_spec g g.end2 s0 startPos⟩
    · simp only [c, Stage.convert, hc]
      rfl
    · simp only [c, Stage.convert, hc]
    · simp only [c, Stage.convert, hc]
      exact clampRate_spec hv g.rate
  · intro p s0 startPos vmax
    have hspeed : min p.returnSpeed vmax = if vmax < p.returnSpeed then vmax else p.returnSpeed := by
      split_ifs <;> omega
    rw [Program.convert, hspeed]

/-! ### The end of a test (R120, R121) -/

/-- The two occurrences of a test's end join the event queue in their order where neither is pending and both are enabled. -/
theorem endTest_eventQueue (s : State) (o : TestOutcome) (n : Nat) (h8 : s.events.record .testEnded = none)
    (h9 : s.events.record .resultReady = none) (he8 : s.events.enabled.getLsbD 8 = true)
    (he9 : s.events.enabled.getLsbD 9 = true) :
    (s.endTest o n).link.eventQueue = s.link.eventQueue ++ [.testEnded, .resultReady] := by
  have queued (u : State) (k : EventKind) (d : Word32) (c : EventClass) (hk : u.events.record k = none)
      (he : u.events.enabled.getLsbD k.code.val = true) :
      (u.record k d c).link.eventQueue = u.link.eventQueue ++ [k] := by
    rw [record_eq, hk]
    simp only [EventKind.inSet, he, Bool.true_or, if_true]
  rw [endTest_link, State.endRecorded, queued, queued]
  · simp [State.closeResult]
  · exact h8
  · exact he8
  · rw [record_record_ne _ (by decide)]; exact h9
  · rw [record_enabled]; exact he9

/-- The parts of a result, present or absent with their reasons (R153, R154, R173, R174). -/
theorem resultOf_maxForce (e : Evaluation) (s0 : Int) :
    (∀ f a, e.fmax = some f → e.agt = some a →
      e.maxForcePart s0 = .present { fmax := f, rm := stressOf f s0, agt := a }) ∧
    (e.fmax = none → e.maxForcePart s0 = .absent .notReached) := by
  unfold Evaluation.maxForcePart
  constructor
  · intro f a hf ha
    rw [hf, ha]
  · intro hf
    rw [hf]

theorem plateauPart_spec (e : Evaluation) :
    (∀ a, e.plateau = .ended → e.ae = some a → e.plateauPart = .present a) ∧
      (e.plateau ≠ .ended → e.plateauPart = .absent e.path.lowerReason) := by
  unfold Evaluation.plateauPart
  constructor
  · intro a hp ha
    rw [hp, ha]
  · intro hp
    cases h : e.plateau <;> simp_all

theorem modulusPart_spec (e : Evaluation) :
    (∀ m, e.fit = .valid → e.modulus = some m → e.modulusPart = .present m) ∧
      (e.fit = .invalid → e.modulusPart = .absent .fitInvalid) ∧ (e.fit = .opened → e.modulusPart = .absent .fitOpen) := by
  unfold Evaluation.modulusPart
  refine ⟨fun m hf hm => ?_, fun hf => ?_, fun hf => ?_⟩
  · rw [hf, hm]
  · rw [hf]; rfl
  · rw [hf]; rfl

/-- The frame after each outcome (R121, R23). -/
theorem afterTest_eq (f : Frame) (o : TestOutcome) (p : Program) (startPos : Int) :
    f.afterTest o (if p.returnEnabled then some p.returnSpeed else none) startPos = (match o with
      | .completedBreak | .completedNoBreak | .endedByWatch =>
        if p.returnEnabled then { f with
          state := .returning,
          move := some { kind := .returning, target := some startPos, rate := p.returnSpeed, reached := false,
                         settle := none } }
        else { f with state := .ready }
      | .aborted | .testFault => { f with state := .ready }
      | .frameFault => f
      | .reset => { f with state := if f.status = .committed then .driveOff else .undefined }) := by
  cases h : p.returnEnabled <;> cases o <;> rfl

theorem yieldPart_of_some {x : Option Int} {f : Int} (h : x = some f) (s0 : Int) (why : Reason) :
    yieldPart x s0 why = .present { force := f, stress := stressOf f s0 } := by
  rw [h]
  rfl

theorem yieldPart_of_none {x : Option Int} (h : x = none) (s0 : Int) (why : Reason) :
    yieldPart x s0 why = .absent why := by
  rw [h]
  rfl

/-- The reasons of an absent upper yield, lower yield or plateau, and offset yield (R174). -/
theorem upperReason_spec (path : YieldPath) : (path = .continuous → path.upperReason = .notDiscontinuous) ∧
    (path = .none → path.upperReason = .notReached) :=
  ⟨fun h => h ▸ rfl, fun h => h ▸ rfl⟩

theorem lowerReason_spec (path : YieldPath) : (path = .continuous → path.lowerReason = .notDiscontinuous) ∧
    (path = .none → path.lowerReason = .notReached) ∧ (path = .discontinuous → path.lowerReason = .endedEarly) :=
  ⟨fun h => h ▸ rfl, fun h => h ▸ rfl, fun h => h ▸ rfl⟩

theorem fitReason_spec (fit : FitState) : (fit = .invalid → fit.reason = .fitInvalid) ∧
    (fit = .opened → fit.reason = .fitOpen) ∧ (fit = .valid → fit.reason = .notReached) :=
  ⟨fun h => h ▸ rfl, fun h => h ▸ rfl, fun h => h ▸ rfl⟩

/-- Settles O22: what the operations of the end sequence leave of each block. -/
theorem testEndSequenceLeavesEveryBlock : Obligations.TestEndSequenceLeavesEveryBlock := by
  intro s t outcome detail p htest hprogram u e s0 stress code
  have hcode : outcome.code = code := by cases outcome <;> rfl
  have hresults : (s.closeResult outcome detail).recs.results = s.recs.results ++ [s.resultOf t outcome detail] := by
    simp [State.closeResult, htest]
  have absent {α : Type} {part : Part α} {why why' : Reason} (h : part = .absent why) (hw : why = why') :
      part = .absent why' := hw ▸ h
  obtain ⟨hup1, hup2⟩ := upperReason_spec e.path
  obtain ⟨hlow1, hlow2, hlow3⟩ := lowerReason_spec e.path
  obtain ⟨hfit1, hfit2, hfit3⟩ := fitReason_spec e.fit
  obtain ⟨hmax1, hmax2⟩ := resultOf_maxForce e s0
  obtain ⟨hplateau1, hplateau2⟩ := plateauPart_spec e
  obtain ⟨hmodulus1, hmodulus2, hmodulus3⟩ := modulusPart_spec e
  refine ⟨⟨?_, ?_, s.resultOf t outcome detail, ?_, rfl, rfl, rfl, rfl, rfl, rfl, rfl, rfl, rfl, rfl, rfl, rfl, rfl,
    hmax1, hmax2,
    fun f hf => yieldPart_of_some hf s0 _,
    fun hf => ⟨fun hp => absent (yieldPart_of_none hf s0 _) (hup1 hp), fun hp => absent (yieldPart_of_none hf s0 _) (hup2 hp)⟩,
    fun f hf => yieldPart_of_some hf s0 _,
    fun hf => ⟨fun hp => absent (yieldPart_of_none hf s0 _) (hlow1 hp),
      fun hp => absent (yieldPart_of_none hf s0 _) (hlow2 hp), fun hp => absent (yieldPart_of_none hf s0 _) (hlow3 hp)⟩,
    hplateau1,
    fun hp => ⟨fun h => absent (hplateau2 hp) (hlow1 h), fun h => absent (hplateau2 hp) (hlow2 h),
      fun h => absent (hplateau2 hp) (hlow3 h)⟩,
    fun f hf => yieldPart_of_some hf s0 _,
    fun hf => ⟨fun hp => absent (yieldPart_of_none hf s0 _) (hfit1 hp),
      fun hp => absent (yieldPart_of_none hf s0 _) (hfit2 hp), fun hp => absent (yieldPart_of_none hf s0 _) (hfit3 hp)⟩,
    hmodulus1, hmodulus2, hmodulus3, fun c hc => congrArg breakPartOf hc, fun hc => congrArg breakPartOf hc⟩,
    endTest_eval .., endTest_hold .., ?_, ?_, endTest_eventQueue s outcome detail, ?_, endTest_servo .., ?_,
    endTest_mail .., endTest_force .., endTest_strain .., endTest_ext .., endTest_watches .., endTest_stream ..,
    endTest_inputs .., endTest_clock .., endTest_points .., endTest_pending .., fun k => endTest_record_ne s outcome detail⟩
  · simp [u]
  · simp [u]
  · simp [u, htest]
  · rw [← hcode]; exact endTest_record_testEnded s outcome detail
  · exact (endTest_record_resultReady s outcome detail).trans (by rw [hresults, List.length_append]; rfl)
  · simp [u, Sequencer.afterTest]
  · simp only [u, endTest_frame, hprogram, Option.bind_some]
    exact afterTest_eq ..

/-! ### Abort, hold, clear and resume (R133 to R136, R149) -/

section
variable {s : State} (tag : Byte)

theorem exec_abortTest (hs : s.free) : exec (.abortTest tag) s = .next (answering 0x95 tag (handleAbortTest s)) :=
  request_perform s .abortTest hs nofun

theorem exec_holdTest (hs : s.free) : exec (.holdTest tag) s = .next (answering 0x96 tag (handleHoldTest s)) :=
  request_perform s .holdTest hs nofun

theorem exec_clearHold (causes : Byte) (hs : s.free) :
    exec (.clearHold tag causes) s = .next (answering 0x97 tag (handleClearHold causes s)) :=
  request_perform s (.clearHold causes) hs nofun

theorem exec_resumeTest (hs : s.free) : exec (.resumeTest tag) s = .next (answering 0x98 tag (handleResumeTest s)) :=
  request_perform s .resumeTest hs nofun

end

/-- A set of causes with one more in it. -/
theorem add_eq (h : HoldCauses) (c : HoldCause) : h.add c =
    { operator := h.operator || decide (c = .operator), watch := h.watch || decide (c = .watch),
      removal := h.removal || decide (c = .removal), extLost := h.extLost || decide (c = .extLost) } := by
  cases c <;> simp [HoldCauses.add]

/-- A set of causes is empty exactly where its code is 0. -/
theorem causes_eq_empty_iff (h : HoldCauses) : h = HoldCauses.empty ↔ h.code = 0 := by
  obtain ⟨o, w, r, x⟩ := h
  cases o <;> cases w <;> cases r <;> cases x <;> decide

/-- The stage timer of a test that is held, paused where the program says so (R114). -/
def heldTimer (pauses : Bool) (t : StageTimer) : StageTimer := if pauses then t.pause else t

/-- R133 in TESTING: the cause joins the set, the test is held, and HELD is raised. -/
theorem setHold_of_testing (s : State) (c : HoldCause) (h : s.frame.state = .testing) :
    s.setHold c = ({ s with
      hold := { causes := s.hold.causes.add c, count := min 65535 (s.hold.count + 1) }
      frame := { s.frame with state := .held }
      servo := { s.servo with entry := s.servo.entry || s.holdsPosition }
      seq := { s.seq with timer := heldTimer s.pausesTimers s.seq.timer } } : State).record .heldEntered
        (BitVec.ofNat 32 c.code) .info := by
  unfold State.setHold heldTimer
  rw [h]
  cases hh : s.holdsPosition <;> cases hp : s.pausesTimers <;> simp <;> rfl

/-- R133 in HELD: the cause joins the set. -/
theorem setHold_of_held (s : State) (c : HoldCause) (h : s.frame.state = .held) :
    s.setHold c = { s with hold := { s.hold with causes := s.hold.causes.add c } } := by
  unfold State.setHold
  rw [h]
  rfl

/-- Outside a test there is nothing to hold. -/
theorem setHold_of_not_inTest (s : State) (c : HoldCause) (h : s.frame.state ≠ .testing) (h' : s.frame.state ≠ .held) :
    s.setHold c = s := by
  unfold State.setHold
  split <;> simp_all

theorem heldTimer_eq (pauses : Bool) (t : StageTimer) : heldTimer pauses t = (match t with
    | .running left => if pauses then .paused left else .running left
    | other => other) := by
  cases t <;> cases pauses <;> rfl

theorem resume_eq (t : StageTimer) : t.resume = (match t with
    | .paused left => .running left
    | other => other) := by
  cases t <;> rfl

/-- The reply of HOLD_TEST carries the set with the operator's cause in it. -/
theorem holdByte_setHold (s : State) (h : s.inTest = true) :
    (s.setHold .operator).holdByte = BitVec.ofNat 8 ({ s.hold.causes with operator := true } : HoldCauses).code := by
  rcases (inTest_iff s).1 h with h | h
  · rw [setHold_of_testing s _ h, State.holdByte, record_hold]
    rfl
  · rw [setHold_of_held s _ h]
    rfl

theorem handleHoldTest_of_inTest (s : State) (h : s.inTest = true) : handleHoldTest s =
    (.ok [BitVec.ofNat 8 ({ s.hold.causes with operator := true } : HoldCauses).code], s.setHold .operator) := by
  rw [handleHoldTest, if_pos h]
  simp only [holdByte_setHold s h]

/-- R136: a held test without a cause runs on. -/
theorem handleResumeTest_eq (s : State) :
    handleResumeTest s =
      if s.frame.state ≠ .held then (.refuse .wrongState 0, s)
      else if s.hold.causes.code ≠ 0 then (.refuse .causePending s.hold.causes.code, s)
      else (.ok [], { s with
        frame := { s.frame with state := .testing }
        servo := { s.servo with entry := s.servo.entry || s.holdsPosition }
        seq := { s.seq with timer := s.seq.timer.resume } }) := by
  unfold handleResumeTest
  simp only [causes_eq_empty_iff, ite_not]
  cases hh : s.holdsPosition <;> simp <;> rfl

/-- Settles O23: each request in each frame state. -/
theorem abortHoldClearAndResume : Obligations.AbortHoldClearAndResume := by
  refine ⟨?_, fun s => ⟨?_, ?_⟩, fun s tag hs => ?_, fun s tag hs => ⟨fun h => ?_, fun h => ?_, fun h h' => ?_⟩, ?_,
    fun s tag hs => ?_⟩
  · intro s c code joined
    have hcode : c.code = code := by cases c <;> rfl
    refine ⟨fun h => ?_, fun h => ?_, setHold_of_not_inTest s c⟩
    · have held := setHold_of_testing s c h
      rw [add_eq, heldTimer_eq, hcode] at held
      exact held
    · have held := setHold_of_held s c h
      rw [add_eq] at held
      exact held
  · cases h : s.program <;> simp [State.holdsPosition, h]
  · cases h : s.program <;> simp [State.pausesTimers, h]
  · rw [exec_abortTest tag hs, handleAbortTest]
    cases s.frame.state <;> rfl
  · rw [exec_holdTest tag hs, handleHoldTest_of_inTest s ((inTest_iff s).2 (.inl h)), setHold_of_testing s _ h,
      heldTimer_eq]
    rfl
  · rw [exec_holdTest tag hs, handleHoldTest_of_inTest s ((inTest_iff s).2 (.inr h)), setHold_of_held s _ h]
    rfl
  · rw [exec_holdTest tag hs, handleHoldTest, (inTest_eq_false_iff s).2 ⟨h, h'⟩]
    rfl
  · intro s tag causes hs left
    have h0 : causes.toNat = 0 ↔ causes = 0 := by rw [← BitVec.toNat_inj]; rfl
    simp only [exec_clearHold tag causes hs, handleClearHold, h0, inTest_iff]
    split_ifs <;> rfl
  · rw [exec_resumeTest tag hs, handleResumeTest_eq, resume_eq]
    split_ifs <;> rfl

end Sys2Proof.Machine
end

section
/-! The stream unit's timer (spec/11, section 11.4), GET_STATUS and DESCRIBE (section 11.5). -/

namespace Sys2Proof.Machine

/-! ### The period timer's expiry (R198, R199) -/

/-- R198: when an expiry makes a record. -/
theorem recordsNow_iff (s : State) : s.recordsNow = true ↔
    s.frame.state = .testing ∨ s.frame.state = .held ∧ (∀ p, s.program = some p → p.streamInHold = .run) ∨
      s.inTest = false ∧ s.stream.idle = true := by
  unfold State.recordsNow State.inTest
  cases s.frame.state with
  | held => cases s.program <;> simp [FrameState.inTest]
  | testing | undefined | driveOff | enabling | ready | moving | returning | faulted => simp [FrameState.inTest]

theorem exec_streamPeriodExpiry (s : State) {left : Nat} (h : s.stream.timer = some left) :
    exec .streamPeriodExpiry s = .next s.streamExpiry.transmit := by
  change State.done (if s.stream.timer.isSome then s.streamExpiry else s) = _
  rw [h]
  rfl

theorem streamExpiry_eq (s : State) : s.streamExpiry =
    if s.recordsNow then ((s.onStream (·.restart)).onStream fun x => { x with made := saturate countLimit x.made 1 }).offerRecord
    else s.onStream (·.restart) := rfl

/-- R199: a record that finds a place, with the marker toggled in RECORD_TOGGLE. -/
theorem offerRecord_of_place {s : State} (h : s.link.streamQueue.length < 64) : s.offerRecord = { s with
    stream := { s.stream with pendingLoss := 0 }
    link := { s.link with streamQueue := s.link.streamQueue ++ [s.streamRecord] }
    seq := { s.seq with marker := if s.seq.markerMode = .recordToggle then !s.seq.marker else s.seq.marker } } := by
  rw [State.offerRecord, if_pos h]
  split_ifs <;> rfl

/-- R199: a record that finds the queue full. -/
theorem offerRecord_of_full {s : State} (h : 64 ≤ s.link.streamQueue.length) : s.offerRecord =
    (s.onStream fun x => { x with
      pendingLoss := saturate countLimit x.pendingLoss 1
      dropped := saturate countLimit x.dropped 1 }).record .streamLoss
      (BitVec.ofNat 32 (saturate countLimit s.stream.pendingLoss 1)) .warning := by
  rw [State.offerRecord, if_neg (Nat.not_lt.2 h)]
  rfl

theorem saturate_countLimit (n : Nat) : saturate countLimit n 1 = min 4294967295 (n + 1) := rfl

/-- Settles O31: no record, a record with a place, a record without one. -/
theorem streamExpiryMakesARecord : Obligations.StreamExpiryMakesARecord := by
  intro s left hleft period restarted x record makes up
  rw [exec_streamPeriodExpiry s hleft, streamExpiry_eq]
  refine ⟨fun h => ?_, fun h hq => ?_, fun h hq => ?_⟩
  · rw [if_neg (mt (recordsNow_iff s).1 h)]
    rfl
  · rw [if_pos ((recordsNow_iff s).2 h), offerRecord_of_place (by exact hq)]
    simp only [saturate_countLimit]
    rfl
  · rw [if_pos ((recordsNow_iff s).2 h), offerRecord_of_full (by exact hq)]
    simp only [State.onStream, saturate_countLimit]
    rfl

/-! ### Codes and flags (section 11.6) -/

theorem frameState_code (x : FrameState) : x.code =
    codeIn [.undefined, .driveOff, .enabling, .ready, .moving, .testing, .held, .returning, .faulted] x := by
  cases x <;> rfl
theorem definitionStatus_code (x : DefinitionStatus) : x.code = codeIn [.opened, .committed] x := by cases x <;> rfl
theorem strainState_code (x : StrainState) : x.code =
    codeIn [.absent, .fitted, .zeroed, .following, .removing, .derived] x := by cases x <;> rfl
theorem receiverState_code (x : ReceiverState) : x.code =
    codeIn [.inhibited, .hunt, .syncA, .first, .confirm, .locked] x := by cases x <;> rfl
theorem channel_code (x : Channel) : x.code = codeIn [.position, .force, .strain] x := by cases x <;> rfl
theorem breakCondition_code (x : BreakCondition) : x.code = codeIn [.fraction, .sudden] x := by cases x <;> rfl
theorem holdMode_code (x : HoldMode) : x.code = codeIn [.holdChannel, .holdPosition] x := by cases x <;> rfl
theorem inHold_code (x : InHold) : x.code = codeIn [.run, .stop] x := by cases x <;> rfl
theorem watchState_code (x : WatchState) : x.code = codeIn [.armed, .fired] x := by cases x <;> rfl
theorem watchAction_code (x : WatchAction) : x.code =
    codeIn [.notify, .hold, .nextStage, .endTest, .removeExt] x := by cases x <;> rfl
theorem phase_code (x : Phase) : x.code =
    codeIn [.elastic, .discontinuous, .hardening, .necking, .ended] x := by cases x <;> rfl
theorem fitState_code (x : FitState) : x.code = codeIn [.opened, .valid, .invalid] x := by cases x <;> rfl
theorem yieldPath_code (x : YieldPath) : x.code = codeIn [.none, .discontinuous, .continuous] x := by cases x <;> rfl
theorem plateau_code (x : Plateau) : x.code = codeIn [.notStarted, .running, .ended, .cutShort] x := by cases x <;> rfl
theorem markerMode_code (x : MarkerMode) : x.code = codeIn [.off, .testLevel, .recordToggle] x := by cases x <;> rfl
theorem eventClass_code (x : EventClass) : x.code = codeIn [.info, .warning, .testFault, .frameFault] x := by
  cases x <;> rfl

theorem inputFlags_eq (i : Inputs) : inputFlags i = BitVec.ofNat 8 (i.estop.toNat + 2 * i.upper.toNat +
    4 * i.lower.toNat + 8 * i.driveReady.toNat + 16 * i.driveFault.toNat) := by
  unfold inputFlags
  cases i.estop <;> cases i.upper <;> cases i.lower <;> cases i.driveReady <;> cases i.driveFault <;> rfl

theorem sampleFlags_eq (x : Sample) :
    x.flags = BitVec.ofNat 8 (x.checkBad.toNat + 2 * x.overtravel.toNat + 4 * x.gap.toNat) := by
  unfold Sample.flags
  cases x.checkBad <;> cases x.overtravel <;> cases x.gap <;> rfl

theorem markFlags_eq (q : Sequencer) :
    q.markFlags = BitVec.ofNat 8 (q.timeMark.toNat + 2 * q.yieldMark.toNat + 4 * q.fmaxMark.toNat) := by
  unfold Sequencer.markFlags
  cases q.timeMark <;> cases q.yieldMark <;> cases q.fmaxMark <;> rfl

/-! ### GET_STATUS at its block (R200) -/

/-- A request that changes nothing is answered from the state in which its own frame occupies a slot (log 26). -/
theorem request_reads {s : State} {f : RequestFrame} {h : State → Reply × State} (hs : s.free)
    (hread : (h (s.placed f)).2 = s.placed f) :
    s.request f h = .next (s.replying (f.kind + 0x80) f.tag (h (s.placed f)).1.status (h (s.placed f)).1.detail
      (h (s.placed f)).1.data) := by
  have hconst : s.request f h = s.request f fun u => ((h (s.placed f)).1, u) := by
    have hpair : h (s.placed f) = ((h (s.placed f)).1, s.placed f) := Prod.ext rfl hread
    rw [State.request, State.request, if_pos hs, if_pos hs]
    exact congrArg (fun r => (answered f r).done) hpair
  rw [hconst]
  exact request_eq s hs rfl rfl

theorem exec_getStatus {s : State} (tag group : Byte) (hs : s.free) : exec (.getStatus tag group) s =
    .next (answering 0xB0 tag ((handleGetStatus group (s.placed (frameOf (.getStatus group) tag))).1, s)) :=
  request_reads (f := frameOf (.getStatus group) tag) (h := handleGetStatus group) hs (handleGetStatus_state _ group)


/-- A group's contents are the data of the reply. -/
theorem exec_getStatus_group {s : State} (tag group : Byte) {data : List Byte} (hs : s.free)
    (h : (s.placed (frameOf (.getStatus group) tag)).statusGroup group.toNat = some data) :
    exec (.getStatus tag group) s = .next (s.replying 0xB0 tag .ok 0 data) := by
  rw [exec_getStatus tag group hs, handleGetStatus, h]
  rfl

theorem length_bytes32 (w : Word32) : (bytes32 w).length = 4 := rfl
theorem length_bytes64 (w : BitVec 64) : (bytes64 w).length = 8 := rfl
theorem length_bytes16 (w : BitVec 16) : (bytes16 w).length = 2 := rfl

/-- The items of the latest point (section 11.6). -/
theorem pointBytes_eq (x : Point) : x.bytes =
    bytes32 x.time ++ bytes32 x.testTime ++ field x.p ++ field x.d ++ field x.f ++ field x.eps ++
      [codeIn [.absent, .fitted, .zeroed, .following, .removing, .derived] x.source, stageByte x.stage, flagByte x.held] := by
  rw [Point.bytes, strainState_code]

/-- An ID field of at most sixteen characters takes 17 bytes. -/
theorem length_idField {id : List Byte} (h : id.length ≤ 16) : (idField id).length = 17 := by
  simp [idField]
  omega

theorem length_flatMap_const {α : Type} (f : α → List Byte) (n : Nat) (h : ∀ x, (f x).length = n) (xs : List α) :
    (xs.flatMap f).length = n * xs.length := by
  induction xs with
  | nil => rfl
  | cons x xs ih => rw [List.flatMap_cons, List.length_append, h, ih, List.length_cons]; ring

/-- The outputs, references and samples of group 2. -/
theorem removeOutput_eq (x : StrainState) : x.removeOutput = decide (x = .removing) := by cases x <;> rfl

theorem seqRefByte_eq (x : Option (BitVec 4)) : seqRefByte x = (match x.map (·.toNat) with
    | some i => BitVec.ofNat 8 i
    | none => 0xFF) := by
  cases x with
  | none => rfl
  | some r =>
    change r.setWidth 8 = BitVec.ofNat 8 r.toNat
    exact BitVec.eq_of_toNat_eq (by simp)

theorem sampleBytes_eq (x : Option Sample) : sampleBytes x = (match x with
    | some y => field y.elongation ++
        [BitVec.ofNat 8 (y.checkBad.toNat + 2 * y.overtravel.toNat + 4 * y.gap.toNat), BitVec.ofNat 8 y.lost]
    | none => List.replicate 6 0) := by
  cases x with
  | none => rfl
  | some y => rw [sampleBytes, sampleFlags_eq]; rfl

/-- The slots, the stage timer, the cross-section and the watches of group 3. -/
theorem slotBytes_eq : slotBytes = fun p => match p with
    | some p => [1, BitVec.ofNat 8 p.stages.length]
    | none => [0, 0] := by
  funext p
  cases p <;> rfl

theorem slotIndex_eq (x : Option Nat) : (x.map byteOf).getD 0xFF = stageByte x := by cases x <;> rfl

theorem timerBytes_eq (t : StageTimer) : t.bytes = (match t with
    | .stopped => 0 :: count32 0
    | .running left => 1 :: count32 left
    | .paused left => 2 :: count32 left) := by
  cases t <;> rfl

theorem s0_eq (s : State) : unsigned32 s.s0 = unsigned32 ((s.recs.test.map (·.specimen.s0)).getD 0 : Nat) := by
  unfold State.s0
  cases s.recs.test <;> rfl

theorem watchBytes_eq : Watch.bytes = fun w =>
    [flagByte w.enabled, codeIn [.armed, .fired] w.state,
      codeIn [.notify, .hold, .nextStage, .endTest, .removeExt] w.action, flagByte w.previous.isSome] ++
    (match w.previous with
      | some v => if w.quantity = .testTime then bytes32 (unsigned32 v) else field v
      | none => [0, 0, 0, 0]) := by
  funext w
  rw [Watch.bytes, watchState_code, watchAction_code]
  cases w.previous <;> cases w.quantity <;> rfl

theorem length_timerBytes (t : StageTimer) : t.bytes.length = 5 := by cases t <;> rfl

theorem length_watchBytes (w : Watch) : w.bytes.length = 8 := by
  rw [Watch.bytes, List.length_append]
  split <;> rfl

theorem length_sequencerBytes (s : State) : s.sequencerBytes.length = 17 := by
  have hslots := length_flatMap_const slotBytes 2 (fun p => by cases p <;> rfl) s.seq.slots.toList
  simp only [State.sequencerBytes, List.length_append, hslots, length_timerBytes, Vector.length_toList]
  rfl

/-- The length of group 3, with IDs of at most sixteen characters. -/
theorem length_testGroup (s : State) (htest : ∀ chars, s.recs.test.map (·.specimen.id) = some chars → chars.length ≤ 16)
    (hqueue : ∀ chars, s.recs.queue.head?.map (·.id) = some chars → chars.length ≤ 16) :
    s.testGroup.length = 122 := by
  have hid {x : Option (List Byte)} (hx : ∀ chars, x = some chars → chars.length ≤ 16) :
      (idField (x.getD [])).length = 17 := by
    cases x with
    | none => rfl
    | some chars => exact length_idField (hx chars rfl)
  have hwatches := length_flatMap_const Watch.bytes 8 length_watchBytes s.watches.toList
  simp only [State.testGroup, List.length_append, length_sequencerBytes, State.recordsBytes, hid htest, hid hqueue,
    hwatches, Vector.length_toList]
  rfl

/-- Settles O32: the items of each group. -/
theorem statusGroupsCarryTheirItems : Obligations.StatusGroupsCarryTheirItems := by
  refine ⟨?_, fun s tag group hs h => ?_, getLsbD_kindSet⟩
  · intro s tag hs field count two byte flag present zeroed id index sources program x point frame force ext test link
    have htest : s.testGroup = test := by
      simp only [State.testGroup, State.sequencerBytes, State.recordsBytes, State.holdBytes, Evaluation.bytes,
        State.holdByte, slotBytes_eq, slotIndex_eq, timerBytes_eq, markFlags_eq, s0_eq, watchBytes_eq, holdMode_code,
        inHold_code, phase_code, fitState_code, yieldPath_code, plateau_code, test, List.append_assoc]
      cases s.recs.test <;> cases s.recs.queue.head? <;> rfl
    refine ⟨exec_getStatus_group tag 0 hs (congrArg some ?_), ?_, exec_getStatus_group tag 1 hs (congrArg some ?_), ?_,
      exec_getStatus_group tag 2 hs (congrArg some ?_), ?_, exec_getStatus_group tag 3 hs (congrArg some ?_), ?_,
      exec_getStatus_group tag 4 hs (congrArg some ?_), ?_⟩
    · change s.frameGroup = frame
      simp only [State.frameGroup, Servo.bytes, pointBytes_eq, frameState_code, definitionStatus_code, inputFlags_eq,
        channel_code, frame, point, List.append_assoc]
      cases s.frame.firstCause <;> rfl
    · simp only [frame, point, field, List.length_append, length_bytes32, length_bytes64, length_bytes16]
      cases s.frame.firstCause <;> rfl
    · change s.forceGroup = force
      simp only [State.forceGroup, captureBytes, breakCondition_code, force]
      cases s.force.capture <;> rfl
    · simp only [force, field, List.length_append, length_bytes32]
      cases s.force.capture <;> rfl
    · change s.extensometerGroup = ext
      simp only [State.extensometerGroup, State.receiverBytes, State.strainBytes, receiverState_code, strainState_code,
        removeOutput_eq, seqRefByte_eq, sampleBytes_eq, ext, List.append_assoc]
      rfl
    · simp only [ext, field, two, List.length_append, length_bytes32, length_bytes16]
      cases s.ext.latest <;> cases s.strain.zero <;> cases s.strain.pendingSwitch <;> rfl
    · exact htest
    · intro hid hqueue
      rw [← htest]
      exact length_testGroup s (by simpa using hid) (by simpa using hqueue)
    · simp only [State.linkGroup, placed_link_slots, hs.1]
      rfl
    · rfl
  · have hnone : (s.placed (frameOf (.getStatus group) tag)).statusGroup group.toNat = none := by
      match hg : group.toNat with
      | 0 | 1 | 2 | 3 | 4 => omega
      | n + 5 => rfl
    rw [exec_getStatus tag group hs, handleGetStatus, hnone]
    rfl

/-! ### DESCRIBE (R201) and the KINDs outside the directory (R194) -/

theorem frameDescriptor_eq (s : State) : s.frameDescriptor = 1 :: 22 ::
    ([codeIn [.opened, .committed] s.frame.status,
      codeIn [.undefined, .driveOff, .enabling, .ready, .moving, .testing, .held, .returning, .faulted] s.frame.state] ++
      field s.frame.defn.capacity ++ field s.frame.defn.vmax ++ field s.frame.defn.travelMin ++
      field s.frame.defn.travelMax ++ field s.frame.defn.compliance) := by
  rw [State.frameDescriptor, frameState_code, definitionStatus_code]
  rfl

theorem crossheadDescriptor_eq (s : State) : s.crossheadDescriptor = 3 :: 20 ::
    (field s.frame.defn.nmPerCount ++ field s.servo.latest.p ++ bytes32 s.frame.rawCount ++ field s.frame.offset ++
      field s.servo.startPos) :=
  rfl

theorem markerDescriptor_eq (s : State) : s.markerDescriptor =
    5 :: 2 :: [codeIn [.off, .testLevel, .recordToggle] s.seq.markerMode, if s.seq.marker then 1 else 0] := by
  rw [State.markerDescriptor, markerMode_code]
  rfl

/-- A descriptor whose contents have the length given. -/
theorem descriptor_of_length (kind : Byte) {contents : List Byte} {n : Nat} (h : contents.length = n) :
    descriptor kind contents = kind :: BitVec.ofNat 8 n :: contents := by
  rw [descriptor, h]
  rfl

/-- The extensometer strain, sent as 0 without a zero or a gauge length. -/
theorem followingField_eq (x : Strain) : field x.following = (match x.zero, x.gauge with
    | some z, some g => field (roundDiv (form64 ((x.heldMean - z) * 100000)) g)
    | _, _ => [0, 0, 0, 0]) := by
  have hzero : field 0 = [0, 0, 0, 0] := by decide
  rw [Strain.following]
  cases x.zero with
  | none => exact hzero
  | some z =>
    cases x.gauge with
    | none => exact hzero
    | some g => rfl

theorem exec_describe {s : State} (tag : Byte) (hs : s.free) : exec (.describe tag) s =
    .next (s.replying 0xB1 tag .ok 0 (s.frameDescriptor ++ s.forceDescriptor ++ s.crossheadDescriptor ++
      s.extensometerDescriptor ++ s.markerDescriptor)) :=
  request_perform s .describe hs nofun

/-- Settles O33: the five descriptors; the reply to a KIND outside the directory. -/
theorem describeAndUnknownKinds : Obligations.DescribeAndUnknownKinds := by
  refine ⟨?_, fun s kind tag body hs hwf => ?_⟩
  · intro s tag hs field d capacity points frame force crosshead extensometer marker
    have hforce : force.length = 14 + 8 * points.length := by
      have hpoints := length_flatMap_const (fun x : CalPoint => field x.raw ++ field x.force) 8 (fun _ => rfl) points
      simp only [force, List.length_append, hpoints]
      simp only [field, length_bytes32, List.length_singleton]
      omega
    have hextensometer : extensometer.length = 26 := by
      simp only [extensometer, List.length_append]
      cases s.ext.latest <;> cases s.strain.zero <;> cases s.strain.gauge <;> rfl
    have hforceEq : s.forceDescriptor = 2 :: BitVec.ofNat 8 (14 + 8 * points.length) :: force := by
      rw [← descriptor_of_length 2 hforce]
      simp only [State.forceDescriptor, committed_iff, force, points, capacity]
      rfl
    have hextensometerEq : s.extensometerDescriptor =
        if s.ext.state = .locked then 4 :: 26 :: extensometer else [] := by
      rw [show (4 :: 26 :: extensometer) = descriptor 4 extensometer from (descriptor_of_length 4 hextensometer).symm]
      simp only [State.extensometerDescriptor, sampleBytes_eq, strainState_code, followingField_eq, extensometer]
      rfl
    refine ⟨?_, rfl, hforce, rfl, hextensometer, rfl⟩
    rw [exec_describe tag hs, frameDescriptor_eq, hforceEq, crossheadDescriptor_eq, hextensometerEq, markerDescriptor_eq]
    rfl
  · obtain ⟨hkind, -⟩ := of_decide_eq_true hwf
    have hperform (t : State) : performFrame { kind := kind, tag := tag, body := body } t =
        (.refuse .unknownKind 0, t) := by
      rw [performFrame, hkind]
    refine (request_eq (f := { kind := kind, tag := tag, body := body }) (h := performFrame _) s hs ?_ ?_).trans ?_
    · rw [hperform, hperform]
    · rw [hperform]
    · rw [hperform]
      rfl

end Sys2Proof.Machine
end

section
/-! The request codec (spec/11, section 11.6) and the bytes of a request's frame (sections 11.1 and 11.2). -/

namespace Sys2Proof.Machine

/-! ### Records, written and read back -/

theorem length_definitionBytes (d : RawDefinition) : (definitionBytes d).length = 25 + 8 * d.points.length := by
  have hpoints := length_flatMap_const (fun p : RawPoint => bytes32 p.raw ++ bytes32 p.force) 8 (fun _ => rfl) d.points
  simp only [definitionBytes, List.length_append, hpoints]
  rfl

theorem readDefinition_bytes {d : RawDefinition} (h : d.agrees = true) : readDefinition (definitionBytes d) = some d := by
  obtain ⟨hcount, hle⟩ := of_decide_eq_true h
  have hlen : (definitionBytes d).length = 25 + 8 * d.count.toNat := by rw [length_definitionBytes, hcount]
  obtain ⟨capacity, vmax, travelMin, travelMax, nmPerCount, compliance, count, points⟩ := d
  refine (if_pos ⟨hlen, hle⟩).trans (congrArg some ?_)
  rw [RawDefinition.mk.injEq]
  refine ⟨word32_bytes capacity, word32_bytes vmax, word32_bytes travelMin, word32_bytes travelMax,
    word32_bytes nmPerCount, word32_bytes compliance, rfl, ?_⟩
  change readPoints count.toNat (points.flatMap _) = points
  rw [← hcount]
  exact readPoints_bytes points

theorem length_programBytes (p : RawProgram) : (programBytes p).length = 67 + 14 * p.stages.length := by
  have hstages := length_flatMap_const stageBytes 14 stageBytes_length p.stages
  simp only [programBytes, List.length_append, hstages]
  rfl

theorem readProgram_bytes (slot : Byte) {p : RawProgram} (h : p.agrees = true) :
    readProgram (slot :: programBytes p) = some p := by
  obtain ⟨hcount, hle⟩ := of_decide_eq_true h
  have hlen : (slot :: programBytes p).length = 68 + 14 * p.stageCount.toNat := by
    rw [List.length_cons, length_programBytes, hcount]
    omega
  have hstages : readStages p.stageCount.toNat (p.stages.flatMap stageBytes) = p.stages := by
    rw [← hcount]
    exact readStages_bytes p.stages
  obtain ⟨stageCount, extRequired, extLostAction, removalStrain, removeAtNecking, removeBefore, removalTime, fitLower,
    fitUpper, rpOffset, yieldDrop, guardStrain, margin, neckingThreshold, breakPct, suddenPct, breakMin, forceLimit,
    autoTare, returnEnabled, returnSpeed, holdMode, timersInHold, streamInHold, markerMode, stages⟩ := p
  simp only [programBytes, bytes32, List.cons_append, List.nil_append] at hlen ⊢
  refine (if_pos ⟨hlen, hle⟩).trans (congrArg some ?_)
  rw [RawProgram.mk.injEq]
  exact ⟨rfl, rfl, rfl, word32_bytes _, rfl, rfl, word32_bytes _, word32_bytes _, word32_bytes _, word32_bytes _,
    word32_bytes _, word32_bytes _, word32_bytes _, word32_bytes _, word32_bytes _, word32_bytes _, word32_bytes _,
    word32_bytes _, rfl, rfl, word32_bytes _, rfl, rfl, rfl, rfl, hstages⟩

theorem atId_idBytes {id : RawId} (h : id.wf = true) : atId (idBytes id) 0 = id := by
  have hread := atId_append [] [] id h
  rwa [List.append_nil] at hread

theorem length_idBytes {id : RawId} (h : id.wf = true) : (idBytes id).length = 17 :=
  congrArg (· + 1) (of_decide_eq_true h)

theorem length_specimenBytes {r : RawSpecimen} (h : r.id.wf = true) : (specimenBytes r).length = 31 := by
  simp only [specimenBytes, List.length_append, length_idBytes h]
  rfl

theorem readSpecimen_bytes {r : RawSpecimen} (h : r.id.wf = true) : readSpecimen (specimenBytes r) = r := by
  obtain ⟨id, slot, shape, dim1, dim2, parallel⟩ := r
  have hid : atId (specimenBytes ⟨id, slot, shape, dim1, dim2, parallel⟩) 0 = id := by
    simp only [specimenBytes, List.append_assoc]
    exact atId_append [] _ id h
  have hrest (i : Nat) : at8 (specimenBytes ⟨id, slot, shape, dim1, dim2, parallel⟩) (17 + i) =
      at8 ([slot, shape] ++ bytes32 dim1 ++ bytes32 dim2 ++ bytes32 parallel) i := by
    have hlen : (idBytes id).length = 17 := length_idBytes h
    simp only [specimenBytes, List.append_assoc]
    rw [at8_append_right _ _ _ (by omega), hlen, Nat.add_sub_cancel_left]
  rw [readSpecimen, RawSpecimen.mk.injEq]
  refine ⟨hid, hrest 0, hrest 1, ?_, ?_, ?_⟩
  · rw [at32, hrest 2, hrest 3, hrest 4, hrest 5]
    exact word32_bytes dim1
  · rw [at32, hrest 6, hrest 7, hrest 8, hrest 9]
    exact word32_bytes dim2
  · rw [at32, hrest 10, hrest 11, hrest 12, hrest 13]
    exact word32_bytes parallel

theorem readWatch_bytes (index : Byte) (w : RawWatch) : readWatch (index :: watchBytes w) = w := by
  obtain ⟨enabled, quantity, level, direction, action, rearm, hysteresis⟩ := w
  rw [readWatch, RawWatch.mk.injEq]
  exact ⟨rfl, rfl, word32_bytes level, rfl, rfl, rfl, word32_bytes hysteresis⟩

/-- A body of the length its request has is read as that request. -/
theorem sized_of_length {body : List Byte} {n : Nat} {r r' : Request} (hn : body.length = n) (hr : r = r') :
    sized body n r = .request r' := by
  rw [sized, if_pos hn, hr]

/-- Settles O38, by the request. -/
theorem requestCodecRoundTrip : Obligations.RequestCodecRoundTrip := by
  intro r hwf
  cases r with
  | defineFrame d =>
    cases d with
    | none => rfl
    | some d => exact congrArg (fun x => ReadOutcome.request (.defineFrame x)) (readDefinition_bytes hwf)
  | loadProgram slot p =>
    cases p with
    | none => rfl
    | some p => exact congrArg (fun x => ReadOutcome.request (.loadProgram slot x)) (readProgram_bytes slot hwf)
  | setLoop channel kp ki kf =>
    refine sized_of_length rfl ?_
    rw [Request.setLoop.injEq]
    exact ⟨rfl, word32_bytes kp, word32_bytes ki, word32_bytes kf⟩
  | jog speed => exact sized_of_length rfl (congrArg Request.jog (word32_bytes speed))
  | moveTo target speed =>
    exact sized_of_length rfl (congrArg₂ Request.moveTo (word32_bytes target) (word32_bytes speed))
  | setPosition value => exact sized_of_length rfl (congrArg Request.setPosition (word32_bytes value))
  | setOverride percent => exact sized_of_length rfl (congrArg Request.setOverride (halves_bytes percent))
  | zeroExt gauge => exact sized_of_length rfl (congrArg Request.zeroExt (word32_bytes gauge))
  | addSpecimen x =>
    exact sized_of_length (length_specimenBytes hwf) (congrArg Request.addSpecimen (readSpecimen_bytes hwf))
  | dropSpecimen id =>
    exact sized_of_length (length_idBytes hwf) (congrArg Request.dropSpecimen (atId_idBytes hwf))
  | setWatch index w => exact sized_of_length rfl (congrArg (Request.setWatch index) (readWatch_bytes index w))
  | readResult id =>
    cases id with
    | none => rfl
    | some id =>
      exact sized_of_length (length_idBytes hwf) (congrArg (fun x => Request.readResult (some x)) (atId_idBytes hwf))
  | deleteResult id =>
    exact sized_of_length (length_idBytes hwf) (congrArg Request.deleteResult (atId_idBytes hwf))
  | setReporting kinds => exact sized_of_length rfl (congrArg Request.setReporting (word32_bytes kinds))
  | clearEvents kinds => exact sized_of_length rfl (congrArg Request.clearEvents (word32_bytes kinds))
  | setStream period idle =>
    exact sized_of_length rfl (congrArg (fun x => Request.setStream x idle) (halves_bytes period))
  | setFilter | readQueue | clearHold | setSeverity | injectEvent | getStatus => rfl
  | commitFrame | driveOn | driveOff | clearFault | stopMove | tare | testStart | abortTest | holdTest | resumeTest
  | readEvents | streamOn | streamOff | describe | reset => rfl

end Sys2Proof.Machine
end

section
/-! The queue of commands, the arbiter (spec/11, section 11.3), the receiver (section 11.1) and waiting requests
(sections 11.1 and 11.2). -/

namespace Sys2Proof.Machine

/-! ### The queue of commands -/

/-- Settles O1. -/
theorem stepTakesTheFrontCommand : Obligations.StepTakesTheFrontCommand := by
  refine ⟨fun c rest s h => ?_, fun s h => ?_⟩
  · rw [step, h]
  · rw [step, h]

/-! ### The arbiter (R195) -/

theorem arbitrate_of_not_ready {l : Link} {ready : Bool} {e : Events} (h : ¬(ready = true ∧ l.tx = none)) :
    l.arbitrate ready e = l :=
  if_neg h

theorem transmit_of_blocked {s : State} (h : s.inputs.hostReady = false ∨ s.link.tx ≠ none) : s.transmit = s := by
  have hblocked : ¬(s.inputs.hostReady = true ∧ s.link.tx = none) := by
    rintro ⟨hready, htx⟩
    rcases h with h | h
    · rw [h] at hready
      exact Bool.noConfusion hready
    · exact h htx
  rw [State.transmit, State.onLink, arbitrate_of_not_ready hblocked]

section
variable {l : Link} {e : Events}

/-! A ready host and an idle transmitter: the oldest reply, else the oldest event frame, else the oldest stream record. -/

theorem Link.arbitrate_of_reply {r : LinkFrame} {rest : List LinkFrame} (htx : l.tx = none) (hq : l.replies = r :: rest) :
    l.arbitrate true e = { l with replies := rest, tx := some r } := by
  obtain ⟨rx, rxTimer, slots, replies, eventQueue, streamQueue, tx⟩ := l
  dsimp only at htx hq
  subst htx hq
  rfl

theorem Link.arbitrate_of_event {k : EventKind} {rest : List EventKind} (htx : l.tx = none) (hreplies : l.replies = [])
    (hq : l.eventQueue = k :: rest) :
    l.arbitrate true e = { l with eventQueue := rest, tx := some (e.frameOf k) } := by
  obtain ⟨rx, rxTimer, slots, replies, eventQueue, streamQueue, tx⟩ := l
  dsimp only at htx hreplies hq
  subst htx hreplies hq
  rfl

theorem Link.arbitrate_of_record {r : StreamRecord} {rest : List StreamRecord} (htx : l.tx = none)
    (hreplies : l.replies = []) (hevents : l.eventQueue = []) (hq : l.streamQueue = r :: rest) :
    l.arbitrate true e = { l with streamQueue := rest, tx := some r.frame } := by
  obtain ⟨rx, rxTimer, slots, replies, eventQueue, streamQueue, tx⟩ := l
  dsimp only at htx hreplies hevents hq
  subst htx hreplies hevents hq
  rfl

theorem Link.arbitrate_of_nothing (hreplies : l.replies = []) (hevents : l.eventQueue = [])
    (hstream : l.streamQueue = []) {ready : Bool} : l.arbitrate ready e = l := by
  unfold Link.arbitrate
  rw [hreplies, hevents, hstream]
  exact ite_self _

end

theorem transmit_of_reply {s : State} (hready : s.inputs.hostReady = true) (htx : s.link.tx = none) {r : LinkFrame}
    {rest : List LinkFrame} (hq : s.link.replies = r :: rest) :
    s.transmit = { s with link := { s.link with replies := rest, tx := some r } } := by
  rw [State.transmit, State.onLink, hready, Link.arbitrate_of_reply htx hq]

/-- The arbiter leaves the slots and the receiver alone. -/
theorem transmit_link (s : State) : s.transmit.link.slots = s.link.slots ∧ s.transmit.link.rx = s.link.rx := by
  change (s.link.arbitrate _ _).slots = _ ∧ (s.link.arbitrate _ _).rx = _
  obtain h | ⟨_, _, _, h⟩ | ⟨_, _, _, h⟩ | ⟨_, _, _, h⟩ := s.link.arbitrate_cases s.inputs.hostReady s.events <;>
    rw [h] <;> exact ⟨rfl, rfl⟩

theorem transmit_link_slots (s : State) : s.transmit.link.slots = s.link.slots := (transmit_link s).1
theorem transmit_link_rx (s : State) : s.transmit.link.rx = s.link.rx := (transmit_link s).2

/-- After the arbiter has looked it starts nothing more. -/
theorem transmit_transmit (s : State) : s.transmit.transmit = s.transmit := by
  have hcases : s.transmit = s ∨ s.transmit.link.tx ≠ none := by
    obtain h | ⟨_, _, _, h⟩ | ⟨_, _, _, h⟩ | ⟨_, _, _, h⟩ := s.link.arbitrate_cases s.inputs.hostReady s.events
    · exact .inl (by rw [State.transmit, State.onLink, h])
    all_goals
      refine .inr ?_
      change (s.link.arbitrate _ _).tx ≠ none
      rw [h]
      exact nofun
  rcases hcases with h | h
  · rw [h, h]
  · exact transmit_of_blocked (.inr h)

/-- With no request waiting the service is the arbiter's look. -/
theorem service_of_slots_empty {s : State} (n : Nat) (h : s.link.slots = []) : State.service n s = s.transmit := by
  cases n with
  | zero => rfl
  | succ n => exact if_neg fun hs => hs.1 ((transmit_link_slots s).trans h)

/-- Settles O35. -/
theorem arbiterChoosesRepliesThenEventsThenStream : Obligations.ArbiterChoosesRepliesThenEventsThenStream := by
  refine ⟨fun s h => ?_, fun s h level => ?_, fun e k r h => ?_, fun r => ?_, fun s => ⟨transmit_of_blocked, ?_⟩⟩
  · exact congrArg Host.Outcome.next (service_of_slots_empty 3 (s := s.onLink fun l => { l with tx := none }) h)
  · exact congrArg Host.Outcome.next
      (service_of_slots_empty 3 (s := s.onInputs fun i => { i with hostReady := level }) h)
  · rw [Events.frameOf, h]
    dsimp only
    rw [eventClass_code]
  · have hflags : r.flags =
        BitVec.ofNat 8 (r.held.toNat + 2 * r.fitClosed.toNat + 4 * r.broken.toNat + 8 * r.overRange.toNat) := by
      unfold StreamRecord.flags
      cases r.held <;> cases r.fitClosed <;> cases r.broken <;> cases r.overRange <;> rfl
    rw [StreamRecord.frame, StreamRecord.bytes, hflags, strainState_code, frameState_code]
    rfl
  · intro hready htx
    refine ⟨fun r rest => transmit_of_reply hready htx, fun k rest hreplies hq => ?_,
      fun r rest hreplies hevents hq => ?_, fun hreplies hevents hstream => ?_⟩
    · rw [State.transmit, State.onLink, hready, Link.arbitrate_of_event htx hreplies hq]
    · rw [State.transmit, State.onLink, hready, Link.arbitrate_of_record htx hreplies hevents hq]
    · rw [State.transmit, State.onLink, Link.arbitrate_of_nothing hreplies hevents hstream]

/-! ### Bytes taken one after another (R192, log 27) -/

theorem performFrame_link_rx (f : RequestFrame) (s : State) : (performFrame f s).2.link.rx = s.link.rx := by
  unfold performFrame
  split
  · exact perform_link_rx s _
  · rfl
  · rfl

theorem executeOldest_link_rx (s : State) : s.executeOldest.link.rx = s.link.rx := by
  unfold State.executeOldest
  split
  · rfl
  · exact performFrame_link_rx _ s

theorem service_link_rx (n : Nat) (s : State) : (State.service n s).link.rx = s.link.rx := by
  induction n generalizing s with
  | zero => exact transmit_link_rx s
  | succ n ih =>
    rw [State.service]
    split_ifs
    · rw [ih, executeOldest_link_rx, transmit_link_rx]
    · exact transmit_link_rx s

theorem discard_eq (s : State) (reason : Nat) : s.discard reason =
    ({ s with link := { s.link with rx := none, rxTimer := none } } : State).record .linkRxError
      (BitVec.ofNat 32 reason) .warning :=
  rfl

theorem discard_link_rx (s : State) (reason : Nat) : (s.discard reason).link.rx = none := by
  rw [discard_eq, record_link_rx]

/-- How many bytes the receiver takes at most before the given number of bytes is done with: each START that it finds costs
one re-taking of all the bytes that follow. -/
def State.feedSteps (s : State) (n : Nat) : Nat :=
  match s.link.rx with
  | none => n * n
  | some got => n + (got.length + n) * (got.length + n)

theorem feedSteps_of_hunting {s : State} (h : s.link.rx = none) (n : Nat) : s.feedSteps n = n * n := by
  rw [State.feedSteps, h]

theorem feedSteps_of_assembling {s : State} {got : List Byte} (h : s.link.rx = some got) (n : Nat) :
    s.feedSteps n = n + (got.length + n) * (got.length + n) := by
  rw [State.feedSteps, h]

/-- With fuel enough, feeding bytes is taking them by R192. -/
theorem takesBytes_feed (n : Nat) (s : State) (bytes : List Byte) (hn : s.feedSteps bytes.length ≤ n) :
    TakesBytes s bytes (s.feed n bytes) := by
  induction n generalizing s bytes with
  | zero =>
    cases bytes with
    | nil => exact .done s
    | cons b rest =>
      cases hrx : s.link.rx with
      | none =>
        rw [feedSteps_of_hunting hrx, List.length_cons] at hn
        exact absurd hn (by simp)
      | some got =>
        rw [feedSteps_of_assembling hrx, List.length_cons] at hn
        omega
  | succ n ih =>
    cases bytes with
    | nil => exact .done s
    | cons b rest =>
      rw [State.feed]
      cases hrx : s.link.rx with
      | none =>
        rw [feedSteps_of_hunting hrx, List.length_cons] at hn
        simp only [State.takeHostByte, hrx, List.nil_append]
        by_cases hb : b = 0xA5
        · subst hb
          refine .start hrx (ih _ rest ?_)
          rw [feedSteps_of_assembling (got := []) rfl, List.length_nil]
          nlinarith
        · rw [if_neg hb]
          refine .passed hrx hb (ih _ rest ?_)
          rw [feedSteps_of_hunting hrx]
          nlinarith
      | some got =>
        rw [feedSteps_of_assembling hrx, List.length_cons] at hn
        simp only [State.takeHostByte, hrx]
        have hdiscard (reason : Nat) (h : assemblyOf (got ++ [b]) = .bad reason ∨
            (∃ f, assemblyOf (got ++ [b]) = .good f) ∧ 2 ≤ s.link.slots.length ∧ reason = 4) :
            TakesBytes s (b :: rest) ((s.discard reason).feed n (got ++ [b] ++ rest)) := by
          refine .discarded hrx h ?_
          rw [← discard_eq, List.append_assoc]
          refine ih _ _ ?_
          rw [feedSteps_of_hunting (discard_link_rx s reason)]
          have hlen : (got ++ b :: rest).length = got.length + (rest.length + 1) := by simp
          rw [hlen]
          omega
        cases hverdict : assemblyOf (got ++ [b]) with
        | more =>
          refine .added hrx hverdict (ih _ rest ?_)
          rw [feedSteps_of_assembling (got := got ++ [b]) rfl, List.length_append, List.length_singleton]
          have : got.length + 1 + rest.length = got.length + (rest.length + 1) := by omega
          rw [this]
          omega
        | bad reason => exact hdiscard reason (.inl hverdict)
        | good f =>
          dsimp only
          by_cases hs : s.link.slots.length < 2
          · rw [if_pos hs]
            refine .placed hrx hverdict hs (ih _ rest ?_)
            rw [feedSteps_of_hunting (service_link_rx _ _)]
            nlinarith
          · rw [if_neg hs]
            exact hdiscard 4 (.inr ⟨⟨f, hverdict⟩, Nat.not_lt.1 hs, rfl⟩)

end Sys2Proof.Machine
end

section
/-! The receiver's bytes (spec/11, section 11.1), a request's frame, and requests that wait (section 11.2). -/

namespace Sys2Proof.Machine

/-! ### The verdict on an assembly (R192) -/

theorem at8_append_cons (a b : List Byte) (x : Byte) {n : Nat} (h : a.length = n) : at8 (a ++ x :: b) n = x := by
  rw [at8_append_right a _ n h.le, h, Nat.sub_self]
  rfl

theorem assemblyOf_of_long {length : Byte} (rest : List Byte) (h : 240 < length.toNat) :
    assemblyOf (length :: rest) = .bad 1 :=
  if_pos h

theorem assemblyOf_of_short {length : Byte} {rest : List Byte} (h : length.toNat ≤ 240)
    (hr : rest.length < length.toNat + 4) : assemblyOf (length :: rest) = .more := by
  have hlen : (length :: rest).length < length.toNat + 5 := Nat.succ_lt_succ hr
  exact (if_neg (Nat.not_lt.2 h)).trans (if_pos hlen)

theorem assemblyOf_of_whole {length kind tag low high : Byte} {body : List Byte} (h : length.toNat ≤ 240)
    (hb : body.length = length.toNat) : assemblyOf (length :: kind :: tag :: (body ++ [low, high])) =
      if crc16 (length :: kind :: tag :: body) = high ++ low then .good { kind := kind, tag := tag, body := body }
      else .bad 3 := by
  have hwhole : ¬(length :: kind :: tag :: (body ++ [low, high])).length < length.toNat + 5 := by
    simp only [List.length_cons, List.length_append, List.length_nil]
    omega
  have hlow : at8 (length :: kind :: tag :: (body ++ [low, high])) (length.toNat + 3) = low :=
    at8_append_cons (length :: kind :: tag :: body) [high] low (by simp [hb])
  have hhigh : at8 (length :: kind :: tag :: (body ++ [low, high])) (length.toNat + 3 + 1) = high := by
    have hsplit : length :: kind :: tag :: (body ++ [low, high]) = (length :: kind :: tag :: (body ++ [low])) ++ [high] := by
      simp
    rw [hsplit]
    exact at8_append_cons _ [] high (by simp [hb])
  have hcovered : (length :: kind :: tag :: (body ++ [low, high])).take (length.toNat + 3) =
      length :: kind :: tag :: body := by
    rw [← hb]
    exact congrArg (length :: kind :: tag :: ·) List.take_left
  have hbody : ((length :: kind :: tag :: (body ++ [low, high])).drop 3).take length.toNat = body := by
    rw [← hb]
    exact List.take_left
  refine (if_neg (Nat.not_lt.2 h)).trans ((if_neg hwhole).trans ?_)
  change (if at16 _ (length.toNat + 3) = crc16 (List.take (length.toNat + 3) _) then
    Assembly.good { kind := kind, tag := tag, body := List.take length.toNat _ } else _) = _
  rw [hcovered, hbody, at16, hlow, hhigh]
  exact if_congr eq_comm rfl rfl

/-! ### HOST_BYTE and the byte timer (R192) -/

theorem exec_hostByte (b : Byte) (s : State) :
    exec (.hostByte b) s = .next (s.feed (feedFuel ((s.link.rx.getD []).length + 1)) [b]).transmit :=
  rfl

theorem exec_rxByteTimerExpiry_of_assembling {s : State} {got : List Byte} (h : s.link.rx = some got) :
    exec .rxByteTimerExpiry s = .next ((s.discard 2).feed (feedFuel got.length) got).transmit := by
  change State.done (match s.link.rx with
    | some bytes => (s.discard 2).feed (feedFuel bytes.length) bytes
    | none => s) = _
  rw [h]
  rfl

theorem exec_rxByteTimerExpiry_of_hunting {s : State} (h : s.link.rx = none) :
    exec .rxByteTimerExpiry s = .next s.transmit := by
  change State.done (match s.link.rx with
    | some bytes => (s.discard 2).feed (feedFuel bytes.length) bytes
    | none => s) = _
  rw [h]
  rfl

theorem feedSteps_le_feedFuel_hunting {s : State} (h : s.link.rx = none) (n : Nat) : s.feedSteps n ≤ feedFuel n := by
  rw [feedSteps_of_hunting h, feedFuel]
  nlinarith

theorem takesBytes_hostByte (s : State) (b : Byte) :
    TakesBytes s [b] (s.feed (feedFuel ((s.link.rx.getD []).length + 1)) [b]) := by
  refine takesBytes_feed _ s [b] ?_
  cases h : s.link.rx with
  | none => exact feedSteps_le_feedFuel_hunting h _
  | some got =>
    rw [feedSteps_of_assembling h, feedFuel]
    simp only [Option.getD_some, List.length_singleton]
    nlinarith

/-- A hunting receiver passes over bytes without a START. -/
theorem takesBytes_of_hunting {s t : State} {bytes : List Byte} (h : TakesBytes s bytes t) (hrx : s.link.rx = none)
    (hb : 0xA5 ∉ bytes) : t = s := by
  induction h with
  | done s => rfl
  | passed _ _ _ ih => exact ih hrx (List.not_mem_of_not_mem_cons hb)
  | start => exact absurd List.mem_cons_self hb
  | added h => rw [hrx] at h; cases h
  | placed h => rw [hrx] at h; cases h
  | discarded h => rw [hrx] at h; cases h

theorem feed_takeHostByte_none {s : State} {b : Byte} {fuel : Nat} (h : (s.takeHostByte b).2 = []) :
    s.feed (fuel + 1) [b] = (s.takeHostByte b).1 := by
  rw [State.feed, h]
  cases fuel <;> rfl

/-- Taking one byte that leaves nothing to take again. -/
theorem exec_hostByte_of_takes_none {s : State} {b : Byte} {t : State} (h : s.takeHostByte b = (t, [])) :
    exec (.hostByte b) s = .next t.transmit := by
  have hfuel : feedFuel ((s.link.rx.getD []).length + 1) =
      (feedFuel ((s.link.rx.getD []).length + 1) - 1) + 1 := by
    rw [feedFuel]
    exact (Nat.succ_pred_eq_of_pos (by positivity)).symm
  rw [exec_hostByte, hfuel, feed_takeHostByte_none (by rw [h]), h]

theorem takeHostByte_passed {s : State} {b : Byte} (h : s.link.rx = none) (hb : b ≠ 0xA5) :
    s.takeHostByte b = (s, []) := by
  rw [State.takeHostByte, h]
  exact congrArg (·, []) (if_neg hb)

theorem takeHostByte_start {s : State} (h : s.link.rx = none) :
    s.takeHostByte 0xA5 = (s.onLink (·.assembling []), []) := by
  rw [State.takeHostByte, h]
  rfl

theorem takeHostByte_more {s : State} {b : Byte} {got : List Byte} (h : s.link.rx = some got)
    (hm : assemblyOf (got ++ [b]) = .more) :
    s.takeHostByte b = (s.onLink (·.assembling (got ++ [b])), []) := by
  rw [State.takeHostByte, h]
  dsimp only
  rw [hm]

theorem takeHostByte_good {s : State} {b : Byte} {got : List Byte} {f : RequestFrame} (h : s.link.rx = some got)
    (hg : assemblyOf (got ++ [b]) = .good f) (hs : s.link.slots.length < 2) :
    s.takeHostByte b = (((s.onLink (·.hunting)).placed f).service 3, []) := by
  rw [State.takeHostByte, h]
  dsimp only
  rw [hg]
  exact if_pos hs

/-- A discard, and then bytes without a START. -/
theorem takesBytes_discarded {s t : State} {b : Byte} {got : List Byte} {reason : Nat} (hrx : s.link.rx = some got)
    (hb : 0xA5 ∉ got ++ [b]) (hd : assemblyOf (got ++ [b]) = .bad reason ∨
      (∃ f, assemblyOf (got ++ [b]) = .good f) ∧ 2 ≤ s.link.slots.length ∧ reason = 4)
    (h : TakesBytes s [b] t) : t = s.discard reason := by
  cases h with
  | passed h => rw [hrx] at h; cases h
  | start h => rw [hrx] at h; cases h
  | added h hm =>
    rw [hrx] at h
    cases h
    rw [hm] at hd
    rcases hd with hd | ⟨⟨_, hd⟩, _⟩ <;> cases hd
  | placed h hg hslots =>
    rw [hrx] at h
    cases h
    rw [hg] at hd
    rcases hd with hd | ⟨-, hfull, -⟩
    · cases hd
    · omega
  | @discarded _ _ _ _ _ reason' h hd' hrest =>
    rw [hrx] at h
    cases h
    have hreason : reason' = reason := by
      rcases hd with hd | ⟨⟨f, hd⟩, -, hr⟩ <;> rcases hd' with hd' | ⟨⟨f', hd'⟩, -, hr'⟩ <;> rw [hd] at hd' <;> cases hd'
      · rfl
      · rw [hr, hr']
    subst hreason
    exact takesBytes_of_hunting hrest (discard_link_rx s reason') hb

/-- Settles O36. -/
theorem receiverHuntsAndAssembles : Obligations.ReceiverHuntsAndAssembles := by
  refine ⟨fun _ rest h => assemblyOf_of_long rest h, fun _ _ h hr => assemblyOf_of_short h hr,
    fun _ _ _ _ _ _ h hb => assemblyOf_of_whole h hb, fun s b => ⟨_, takesBytes_hostByte s b, rfl⟩,
    fun s got h => ⟨_, ?_, exec_rxByteTimerExpiry_of_assembling h⟩, fun s h => exec_rxByteTimerExpiry_of_hunting h,
    fun s b h hb => exec_hostByte_of_takes_none (takeHostByte_passed h hb),
    fun s h => exec_hostByte_of_takes_none (takeHostByte_start h),
    fun s b got h hm => exec_hostByte_of_takes_none (takeHostByte_more h hm), fun s b got reason h hb hd => ?_,
    fun s got h hb => ?_⟩
  · exact takesBytes_feed _ (s.discard 2) got (feedSteps_le_feedFuel_hunting (discard_link_rx s 2) _)
  · rw [exec_hostByte, takesBytes_discarded h hb hd (takesBytes_hostByte s b)]
    rfl
  · have htaken := takesBytes_feed _ (s.discard 2) got (feedSteps_le_feedFuel_hunting (discard_link_rx s 2) got.length)
    rw [exec_rxByteTimerExpiry_of_assembling h, takesBytes_of_hunting htaken (discard_link_rx s 2) hb]
    rfl

end Sys2Proof.Machine
end

section
/-! A request's frame: its check, its bytes at the receiver, and its place behind a full reply queue (spec/11, sections 11.1
and 11.2). -/

namespace Sys2Proof.Machine

/-! ### The check (R191) -/

/-- One shift of the check over a byte's bits held in `y`: the generator where the top bits differ. -/
theorem crcShift_xor (c y : BitVec 16) : crcShift (c ^^^ y) =
    (if c.getLsbD 15 = y.getLsbD 15 then c <<< 1 else (c <<< 1) ^^^ 0x1021) ^^^ (y <<< 1) := by
  unfold crcShift
  rw [BitVec.getLsbD_xor, BitVec.shiftLeft_xor_distrib]
  cases c.getLsbD 15 <;> cases y.getLsbD 15
  · rfl
  · change (c <<< 1 ^^^ y <<< 1) ^^^ 0x1021#16 = (c <<< 1 ^^^ 0x1021#16) ^^^ y <<< 1
    ac_rfl
  · change (c <<< 1 ^^^ y <<< 1) ^^^ 0x1021#16 = (c <<< 1 ^^^ 0x1021#16) ^^^ y <<< 1
    ac_rfl
  · rfl

/-- One bit of the check, as the generator's rule says it. -/
def crcBit (b : Byte) (c : BitVec 16) (i : Nat) : BitVec 16 :=
  if c.getLsbD 15 = b.getLsbD i then c <<< 1 else (c <<< 1) ^^^ 0x1021

theorem getLsbD_highByte (b : Byte) (i : Nat) :
    (b ++ 0#8 : BitVec 16).getLsbD i = (if i < 8 then false else b.getLsbD (i - 8)) := by
  refine BitVec.getLsbD_append.trans ?_
  rw [BitVec.getLsbD_zero]

/-- The shift that takes the bit `i` of the byte to the check's top. -/
theorem crcShift_bit (c : BitVec 16) (b : Byte) {n i : Nat} (h : n + i = 7) :
    crcShift (c ^^^ ((b ++ 0#8 : BitVec 16) <<< n)) = crcBit b c i ^^^ ((b ++ 0#8 : BitVec 16) <<< (n + 1)) := by
  have htop : ((b ++ 0#8 : BitVec 16) <<< n).getLsbD 15 = b.getLsbD i := by
    have hn : ¬15 < n ∧ ¬15 - n < 8 ∧ 15 - n - 8 = i := by omega
    obtain ⟨hkept, hhigh, hi⟩ := hn
    rw [BitVec.getLsbD_shiftLeft, getLsbD_highByte, if_neg hhigh, hi]
    simp [hkept]
  rw [crcShift_xor, htop, BitVec.shiftLeft_add]
  rfl

/-- The check after one byte, bit by bit. -/
theorem crcByte_eq (c : BitVec 16) (b : Byte) : crcByte c b = [7, 6, 5, 4, 3, 2, 1, 0].foldl (crcBit b) c := by
  have hstart : c ^^^ (b ++ 0#8) = c ^^^ ((b ++ 0#8 : BitVec 16) <<< 0) := by rw [BitVec.shiftLeft_zero]
  have hend : (b ++ 0#8 : BitVec 16) <<< 8 = 0 := by
    refine BitVec.eq_of_getLsbD_eq fun i hi => ?_
    rw [BitVec.getLsbD_shiftLeft, getLsbD_highByte]
    split_ifs
    · simp
    · exact absurd hi (by omega)
  rw [crcByte, hstart, crcShift_bit c b (i := 7) rfl, crcShift_bit _ b (i := 6) rfl, crcShift_bit _ b (i := 5) rfl,
    crcShift_bit _ b (i := 4) rfl, crcShift_bit _ b (i := 3) rfl, crcShift_bit _ b (i := 2) rfl,
    crcShift_bit _ b (i := 1) rfl, crcShift_bit _ b (i := 0) rfl, hend]
  exact BitVec.xor_zero

theorem crc16_concat (bytes : List Byte) (b : Byte) : crc16 (bytes ++ [b]) = crcByte (crc16 bytes) b := by
  rw [crc16, List.foldl_append]
  rfl

/-! ### A request's command and its frame (log 11) -/

/-- A well-formed request's command is the arrival of its frame, taken by the request's block. -/
theorem exec_requestCommand {tag : Byte} {r : Request} {c : Instr} (hc : requestCommand tag r = some c)
    (hwf : r.wf = true) (s : State) : exec c s = s.request (frameOf r tag) (perform r) := by
  cases r with
  | defineFrame d =>
    cases d with
    | none => cases hc
    | some d =>
      cases hc
      have hagrees : d.agrees = true := hwf
      change s.request _ (handleDefineFrame (if d.agrees then some d else none)) = _
      rw [if_pos hagrees]
      rfl
  | loadProgram slot p =>
    cases p with
    | none => cases hc
    | some p =>
      cases hc
      have hagrees : p.agrees = true := hwf
      change s.request _ (handleLoadProgram slot (if p.agrees then some p else none)) = _
      rw [if_pos hagrees]
      rfl
  | _ => cases hc; rfl

/-- A well-formed request fits a frame. -/
theorem length_body_le {r : Request} (hwf : r.wf = true) : r.body.length ≤ 240 := by
  cases r with
  | defineFrame d =>
    cases d with
    | none => exact Nat.zero_le _
    | some d =>
      obtain ⟨hcount, hle⟩ := of_decide_eq_true hwf
      change (definitionBytes d).length ≤ 240
      rw [length_definitionBytes]
      omega
  | loadProgram slot p =>
    cases p with
    | none => exact Nat.succ_le_of_lt (by decide)
    | some p =>
      obtain ⟨hcount, hle⟩ := of_decide_eq_true hwf
      change (slot :: programBytes p).length ≤ 240
      rw [List.length_cons, length_programBytes]
      omega
  | addSpecimen x => exact (length_specimenBytes hwf).trans_le (by decide)
  | dropSpecimen id => exact (length_idBytes hwf).trans_le (by decide)
  | deleteResult id => exact (length_idBytes hwf).trans_le (by decide)
  | readResult id =>
    cases id with
    | none => exact Nat.zero_le _
    | some id => exact (length_idBytes hwf).trans_le (by decide)
  | _ => exact of_decide_eq_true rfl

theorem performFrame_frameOf {r : Request} (hwf : r.wf = true) (tag : Byte) (s : State) :
    performFrame (frameOf r tag) s = perform r s := by
  rw [performFrame, show readRequest (frameOf r tag).kind (frameOf r tag).body = .request r from
    requestCodecRoundTrip r hwf]

/-- A request that waits, executed (R194). -/
theorem executeOldest_of_slots {r : Request} (hwf : r.wf = true) {tag : Byte} {s : State} {rest : List RequestFrame}
    (h : s.link.slots = frameOf r tag :: rest) : s.executeOldest = answered (frameOf r tag) (perform r s) := by
  rw [State.executeOldest, h]
  exact congrArg (answered (frameOf r tag)) (performFrame_frameOf hwf tag s)

/-- One request waits, and the arbiter leaves a place in the reply queue: it is executed. -/
theorem service_of_one_waiting {r : Request} (hwf : r.wf = true) {tag : Byte} {s : State} (n : Nat)
    (hslots : s.transmit.link.slots = [frameOf r tag]) (hplace : s.transmit.link.replies.length < 2) :
    State.service (n + 1) s = (answered (frameOf r tag) (perform r s.transmit)).transmit := by
  have hempty : (answered (frameOf r tag) (perform r s.transmit)).link.slots = [] := by
    change (perform r s.transmit).2.link.slots.tail = []
    rw [perform_link_slots, hslots]
    rfl
  have hwaits : s.transmit.link.slots ≠ [] ∧ s.transmit.link.replies.length < 2 :=
    ⟨by rw [hslots]; exact List.cons_ne_nil _ _, hplace⟩
  refine (if_pos hwaits).trans ?_
  rw [executeOldest_of_slots hwf hslots]
  exact service_of_slots_empty n hempty

/-! ### The bytes of a request's frame (R192) -/

theorem bytesAfterStart_eq (kind tag : Byte) (body : List Byte) : bytesAfterStart kind tag body =
    BitVec.ofNat 8 body.length :: kind :: tag :: (body ++
      [(crc16 (coveredBytes kind tag body)).extractLsb' 0 8, (crc16 (coveredBytes kind tag body)).extractLsb' 8 8]) :=
  rfl

theorem toNat_length_byte {body : List Byte} (h : body.length ≤ 240) : (BitVec.ofNat 8 body.length).toNat = body.length := by
  rw [BitVec.toNat_ofNat]
  exact Nat.mod_eq_of_lt (by omega)

/-- A frame's bytes after START are incomplete while any is missing. -/
theorem assemblyOf_prefix {kind tag : Byte} {body got : List Byte} {b : Byte} {rest : List Byte}
    (h : body.length ≤ 240) (hsplit : bytesAfterStart kind tag body = got ++ b :: rest) (hgot : got ≠ []) :
    assemblyOf got = .more := by
  cases got with
  | nil => exact absurd rfl hgot
  | cons length tail =>
    rw [bytesAfterStart_eq, List.cons_append, List.cons.injEq] at hsplit
    obtain ⟨hlength, htail⟩ := hsplit
    have hlen := congrArg List.length htail
    simp only [List.length_cons, List.length_append, List.length_nil] at hlen
    have hnat : length.toNat = body.length := by rw [← hlength, toNat_length_byte h]
    exact assemblyOf_of_short (by omega) (by omega)

theorem assemblyOf_bytesAfterStart {kind tag : Byte} {body : List Byte} (h : body.length ≤ 240) :
    assemblyOf (bytesAfterStart kind tag body) = .good { kind := kind, tag := tag, body := body } := by
  have hnat := toNat_length_byte h
  rw [bytesAfterStart_eq, assemblyOf_of_whole (by omega) hnat.symm, halves_bytes]
  exact if_pos rfl

/-- The receiver and the slots are nothing to the arbiter. -/
theorem Link.arbitrate_receiver (l : Link) (ready : Bool) (e : Events) (rx : Option (List Byte)) (timer : Option Nat)
    (slots : List RequestFrame) : ({ l with rx := rx, rxTimer := timer, slots := slots } : Link).arbitrate ready e =
      { l.arbitrate ready e with rx := rx, rxTimer := timer, slots := slots } := by
  unfold Link.arbitrate
  split_ifs
  · dsimp only
    split <;> rfl
  · rfl

theorem transmit_receiver {s : State} (h : s.transmit = s) (rx : Option (List Byte)) (timer : Option Nat)
    (slots : List RequestFrame) : (s.onLink fun l => { l with rx := rx, rxTimer := timer, slots := slots }).transmit =
      s.onLink fun l => { l with rx := rx, rxTimer := timer, slots := slots } := by
  have hlink : s.link.arbitrate s.inputs.hostReady s.events = s.link := congrArg State.link h
  have hkeeps := s.link.arbitrate_receiver s.inputs.hostReady s.events rx timer slots
  rw [hlink] at hkeeps
  exact congrArg (fun l => s.onLink fun _ => l) hkeeps

/-- The bytes that follow an incomplete assembly, up to the last one of a frame. -/
theorem runAll_hostBytes {s : State} {kind tag : Byte} {body got : List Byte} {b : Byte} (rest : List Byte)
    (h : body.length ≤ 240) (hsplit : bytesAfterStart kind tag body = got ++ b :: rest)
    (hidle : s.transmit = s) (hslots : s.link.slots.length < 2) :
    runAll ((b :: rest).map .hostByte) (s.onLink (·.assembling got)) =
      .next (((s.onLink (·.hunting)).placed { kind := kind, tag := tag, body := body }).service 3).transmit := by
  induction rest generalizing got b with
  | nil =>
    have hgood := assemblyOf_bytesAfterStart (kind := kind) (tag := tag) h
    rw [hsplit] at hgood
    have htake := takeHostByte_good (s := s.onLink (·.assembling got)) rfl hgood hslots
    change (match exec (.hostByte b) _ with
      | .next t => runAll [] t
      | .fault r => .fault r
      | .refused r => .refused r) = _
    rw [exec_hostByte_of_takes_none htake]
    rfl
  | cons b' rest ih =>
    have hmore : assemblyOf (got ++ [b]) = .more :=
      assemblyOf_prefix h (by rw [hsplit, List.append_assoc]; rfl) (by simp)
    have htake := takeHostByte_more (s := s.onLink (·.assembling got)) rfl hmore
    change (match exec (.hostByte b) _ with
      | .next t => runAll ((b' :: rest).map .hostByte) t
      | .fault r => .fault r
      | .refused r => .refused r) = _
    rw [exec_hostByte_of_takes_none htake]
    change runAll ((b' :: rest).map .hostByte) (s.onLink (·.assembling (got ++ [b]))).transmit = _
    rw [show (s.onLink (·.assembling (got ++ [b]))).transmit = s.onLink (·.assembling (got ++ [b])) from
      transmit_receiver hidle _ _ s.link.slots]
    exact ih (by rw [hsplit, List.append_assoc]; rfl)

/-- Settles O37. -/
theorem bytesOfARequestAreItsArrival : Obligations.BytesOfARequestAreItsArrival := by
  refine ⟨fun f => ?_, ⟨rfl, fun bytes b => (crc16_concat bytes b).trans (crcByte_eq _ b)⟩, ?_⟩
  · rfl
  · intro s r tag c hc hwf hs hrx htimer hidle
    have hhunting : s.onLink (·.hunting) = s := by
      rw [State.onLink, Link.hunting, ← hrx, ← htimer]
    have hstart : (s.onLink (·.assembling [])).transmit = s.onLink (·.assembling []) := transmit_receiver hidle _ _ s.link.slots
    have hplaced : (s.placed (frameOf r tag)).transmit = s.placed (frameOf r tag) :=
      transmit_receiver hidle s.link.rx s.link.rxTimer _
    have hrun := runAll_hostBytes (s := s) (kind := r.code) (tag := tag) (body := r.body) (got := []) _ (length_body_le hwf)
      (bytesAfterStart_eq ..) hidle (by rw [hs.1]; decide)
    change (match exec (.hostByte 0xA5) s with
      | .next t => runAll ((bytesAfterStart r.code tag r.body).map .hostByte) t
      | .fault r => .fault r
      | .refused r => .refused r) = _
    rw [exec_hostByte_of_takes_none (takeHostByte_start hrx), hstart, exec_requestCommand hc hwf, State.request, if_pos hs]
    refine hrun.trans ?_
    rw [hhunting]
    change Host.Outcome.next (State.service 3 (s.placed (frameOf r tag))).transmit = _
    rw [service_of_one_waiting hwf 2 (by rw [hplaced, placed_link_slots, hs.1]; rfl) (by rw [hplaced]; exact hs.2),
      hplaced, transmit_transmit]
    rfl

/-! ### Waiting requests (R193, R194) -/

/-- Settles O34: a free slot, both slots full, and the frame end that lets a waiting request be executed. -/
theorem requestsWaitOverflowAndAreExecutedLater : Obligations.RequestsWaitOverflowAndAreExecutedLater := by
  refine ⟨fun s r tag c hc hwf hready hreplies => ?_, ?_⟩
  · have hnot : ¬s.free := fun h => by
      have := h.2
      omega
    have hexec : exec c s = .next (s.arrive (frameOf r tag)) := by
      rw [exec_requestCommand hc hwf, State.request, if_neg hnot]
    rw [hexec]
    refine ⟨fun h => ?_, fun h hrx => ?_, fun h hrx => ?_⟩
    · have htransmit : (s.placed (frameOf r tag)).transmit = s.placed (frameOf r tag) :=
        transmit_of_blocked (.inl hready)
      have hservice : State.service 3 (s.placed (frameOf r tag)) = s.placed (frameOf r tag) := by
        refine (if_neg fun hplace => ?_).trans htransmit
        have := hplace.2
        rw [htransmit, placed_link_replies] at this
        omega
      rw [State.arrive, if_pos h, hservice]
      rfl
    · have hraised : (s.raise .linkRxError 4).link.rx ≠ none := by rwa [raise_link_rx]
      rw [State.arrive, if_neg (Nat.not_lt.2 h), State.overflow, if_neg hraised,
        transmit_of_blocked (.inl (by rwa [raise_inputs]))]
      rfl
    · have hraised : (s.raise .linkRxError 4).link.rx = none := by rwa [raise_link_rx]
      refine ⟨_, takesBytes_feed _ (s.raise .linkRxError 4) _ (feedSteps_le_feedFuel_hunting hraised _), ?_⟩
      rw [State.arrive, if_neg (Nat.not_lt.2 h), State.overflow, if_pos hraised]
      rfl
  · intro s r tag a b hwf hready _ hreplies hslots u
    have htransmit : (s.onLink fun l => { l with tx := none }).transmit = u :=
      transmit_of_reply (s := s.onLink fun l => { l with tx := none }) hready rfl hreplies
    refine ⟨_, rfl, ?_⟩
    have hservice := service_of_one_waiting hwf (tag := tag) (s := s.onLink fun l => { l with tx := none }) 2
      (by rw [htransmit]; exact hslots)
      (by rw [htransmit]; exact Nat.one_lt_two)
    rw [hservice, htransmit]
    refine transmit_of_blocked (.inr ?_)
    change (perform r u).2.link.tx ≠ none
    rw [perform_link_tx]
    exact nofun

end Sys2Proof.Machine
end

section
/-! The supervisor's part of a servo update, the settle and stage timers (spec/01, sections 1.7 to 1.9), the strain of an
update (spec/05) and the order of its steps (spec/02, section 2.1). -/

namespace Sys2Proof.Machine

/-! ### The end of a move (R18, R21) -/

/-- The move record after the update has seen whether the setpoint is at the target (R21). -/
def Move.seen (m : Move) (sp : Int) : Move :=
  if m.target = some sp ∧ m.reached = false then { m with reached := true, settle := some 5000 } else m

theorem seen_target (m : Move) (sp : Int) : (m.seen sp).target = m.target := by
  unfold Move.seen
  split_ifs <;> rfl

theorem seen_kind (m : Move) (sp : Int) : (m.seen sp).kind = m.kind := by
  unfold Move.seen
  split_ifs <;> rfl

section
variable {s : State} {p : Int} {gate : Gate} {m : Move}

theorem supervise_of_moving (h : s.frame.state = .moving ∨ s.frame.state = .returning) (hm : s.frame.move = some m) :
    s.supervise p gate = s.superviseMove p gate m := by
  rcases h with h | h <;> rw [State.supervise, h, hm]

/-- A move at its target and near enough to it completes (R21). -/
theorem superviseMove_of_near {goal : Int} (hg : m.target = some goal) (hr : (m.seen s.servo.sp).reached = true)
    (hn : (p - goal).natAbs ≤ 50) : s.superviseMove p gate m =
      if m.kind = .returning then (s.onFrame (·.endMove)).raise .returnDone (signed32 (p - goal))
      else s.onFrame (·.endMove) := by
  change (match (m.seen s.servo.sp).reached, (m.seen s.servo.sp).target with
    | true, some goal =>
      if (p - goal).natAbs ≤ 50 then
        if (m.seen s.servo.sp).kind = MoveKind.returning then (s.onFrame (·.endMove)).raise .returnDone (signed32 (p - goal))
        else s.onFrame (·.endMove)
      else s.limitMove p gate (m.seen s.servo.sp)
    | _, _ => s.limitMove p gate (m.seen s.servo.sp)) = _
  rw [hr, seen_target, seen_kind, hg]
  exact if_pos hn

theorem superviseMove_of_not_near (h : ¬((m.seen s.servo.sp).reached = true ∧ ∃ goal ∈ m.target, (p - goal).natAbs ≤ 50)) :
    s.superviseMove p gate m = s.limitMove p gate (m.seen s.servo.sp) := by
  change (match (m.seen s.servo.sp).reached, (m.seen s.servo.sp).target with
    | true, some goal =>
      if (p - goal).natAbs ≤ 50 then
        if (m.seen s.servo.sp).kind = MoveKind.returning then (s.onFrame (·.endMove)).raise .returnDone (signed32 (p - goal))
        else s.onFrame (·.endMove)
      else s.limitMove p gate (m.seen s.servo.sp)
    | _, _ => s.limitMove p gate (m.seen s.servo.sp)) = _
  split
  next goal hr hg =>
    rw [seen_target] at hg
    exact if_neg fun hn => h ⟨hr, goal, hg, hn⟩
  · rfl

/-- A move that the travel gating ends (R18). -/
theorem limitMove_of_gate (hgate : gate ≠ .none) : s.limitMove p gate m =
    match m.kind, m.target with
    | .returning, some goal =>
      ((s.onFrame (·.endMove)).onServo (·.freeze p)).raise .moveIncomplete (signed32 (p - goal))
    | _, _ => (s.onFrame (·.endMove)).onServo (·.freeze p) :=
  if_neg hgate

/-! ### TRAVEL_LIMIT in a test (R18) -/

theorem supervise_of_inTest (h : s.frame.state = .testing ∨ s.frame.state = .held) :
    s.supervise p gate = s.superviseTest gate := by
  rcases h with h | h <;> rw [State.supervise, h]

/-- The first gated update of a run raises the limit it is gated at. -/
theorem superviseTest_of_gate (hgate : gate ≠ .none) (hfirst : s.frame.gateActed = false) : s.superviseTest gate =
    (s.onFrame fun f => { f with gateActed := decide (gate ≠ .none) }).raise .travelLimit
      (if gate = .travelMax then 1 else 2) := by
  unfold State.superviseTest
  rw [hfirst]
  cases gate with
  | none => exact absurd rfl hgate
  | travelMax => rfl
  | travelMin => rfl

theorem superviseTest_of_no_gate (h : gate = .none ∨ s.frame.gateActed = true) :
    s.superviseTest gate = s.onFrame fun f => { f with gateActed := decide (gate ≠ .none) } := by
  unfold State.superviseTest
  rcases h with rfl | h
  · split_ifs <;> rfl
  · exact if_pos h

end

theorem exec_settleTimerExpiry_of_running {s : State} {m : Move} {left : Nat} {goal : Int} (hm : s.frame.move = some m)
    (hs : m.settle = some left) (hg : m.target = some goal) : exec .settleTimerExpiry s =
      .next ((s.onFrame (·.endMove)).raise .moveIncomplete (signed32 (s.servo.latest.p - goal))).transmit := by
  change State.done (match s.frame.move with
    | some m =>
      match m.settle, m.target with
      | some _, some goal => (s.onFrame (·.endMove)).raise .moveIncomplete (signed32 (s.servo.latest.p - goal))
      | _, _ => s
    | none => s) = _
  rw [hm]
  dsimp only
  rw [hs, hg]
  rfl

theorem exec_settleTimerExpiry_of_stopped {s : State}
    (h : ∀ m left goal, s.frame.move = some m → m.settle = some left → m.target ≠ some goal) :
    exec .settleTimerExpiry s = .next s.transmit := by
  change State.done (match s.frame.move with
    | some m =>
      match m.settle, m.target with
      | some _, some goal => (s.onFrame (·.endMove)).raise .moveIncomplete (signed32 (s.servo.latest.p - goal))
      | _, _ => s
    | none => s) = _
  split
  next m hm =>
    split
    next hs hg => exact absurd hg (h m _ _ hm hs)
    · rfl
  · rfl

theorem exec_stageTimerExpiry (s : State) : exec .stageTimerExpiry s = .next (match s.seq.timer with
    | .running _ => s.onSeq fun q => { q with timer := .stopped, timeMark := true }
    | .stopped | .paused _ => s).transmit :=
  rfl

/-- Settles O11: moves, the test's travel limit, the other states, and the two timers. -/
theorem movesEndAndTimersExpire : Obligations.MovesEndAndTimersExpire := by
  refine ⟨?_, ?_, fun s p gate h => ?_, fun s m left goal hm hs hg => ?_, fun s h => exec_settleTimerExpiry_of_stopped h,
    fun s left h => ?_, fun s h => ?_⟩
  · intro s p gate m h hm seen ready stopped near
    rw [supervise_of_moving h hm]
    refine ⟨fun goal hg hr hn => ?_, fun hnot hgate => ?_, fun hnot hgate hkind => ?_, fun goal hnot hgate hk hg => ?_⟩
    · obtain ⟨goal', hgoal', hnear⟩ := hn
      obtain rfl : goal' = goal := Option.some.inj (hgoal'.symm.trans hg)
      rw [superviseMove_of_near hg hr hnear]
      rfl
    · rw [superviseMove_of_not_near hnot, State.limitMove, if_pos hgate]
      rfl
    · rw [superviseMove_of_not_near hnot, limitMove_of_gate hgate, seen_kind, seen_target]
      split
      next goal hk hg => exact absurd ⟨hk, by rw [hg]; rfl⟩ hkind
      · rfl
    · rw [superviseMove_of_not_near hnot, limitMove_of_gate hgate, seen_kind, seen_target, hk, hg]
      rfl
  · intro s p gate h marked limit
    rw [supervise_of_inTest h]
    refine ⟨superviseTest_of_no_gate, fun hgate hfirst hseverity => ?_, fun hgate hfirst hseverity => ?_⟩
    · rw [superviseTest_of_gate hgate hfirst,
          raise_of_severity (s.onFrame _) .travelLimit _ .warning (congrArg Severity.toClass hseverity),
        if_pos rfl]
      rfl
    · rw [superviseTest_of_gate hgate hfirst,
          raise_of_severity (s.onFrame _) .travelLimit _ .testFault (congrArg Severity.toClass hseverity),
        if_neg nofun, if_pos (by exact h)]
      rfl
  · rcases h with h | h | h | h | h <;> rw [State.supervise, h]
  · rw [exec_settleTimerExpiry_of_running hm hs hg]
    rfl
  · rw [exec_stageTimerExpiry, h]
    rfl
  · rw [exec_stageTimerExpiry]
    split
    next left ht => exact absurd ht (h left)
    · rfl
    · rfl

/-! ### The order of the steps (R26) -/

/-- The millisecond counted and the encoder read (log 3, R6). -/
def State.begun (s : State) (encoder : Word32) (still : Bool) : State :=
  (s.tick.onFrame fun f => { f with rawCount := encoder }).onInputs fun i => { i with retracted := i.retracted && still }

theorem exec_servoUpdate (encoder : Word32) (still : Bool) (s : State) :
    exec (.servoUpdate encoder still) s = .next (s.begun encoder still).servoStep.transmit :=
  rfl

/-- Strain, control and supervision of an update, before its point is made. -/
def State.driven (s : State) (p force : Int) : State :=
  ((s.strainStep p force).1.control p force (s.strainStep p force).2).1.supervise p
    ((s.strainStep p force).1.control p force (s.strainStep p force).2).2

theorem servoStep_eq (s : State) : s.servoStep =
    ((s.driven s.frame.position s.force.filtered).makePoint s.frame.position s.force.filtered
      (s.strainStep s.frame.position s.force.filtered).2).onServo (·.report) :=
  rfl

theorem outside_eq (x : Strain) : x.outside = (match x.state, x.zero, x.gauge with
    | .zeroed, some z, some g => roundDiv (form64 ((x.heldMean - z) * 100000)) g
    | _, _, _ => 0) := by
  unfold Strain.outside Strain.following extensometerStrain
  cases x.state <;> cases x.zero <;> cases x.gauge <;> rfl

end Sys2Proof.Machine
end

section
/-! What the steps of a servo update leave alone, and their order (spec/02, section 2.1). -/

namespace Sys2Proof.Machine

/-! ### The loop and the frame while the strain is found -/

/-- What an occurrence and a hold leave of the clock, the loop and the frame's settings; outside a test, of the whole loop and
frame. -/
structure State.KeepsLoop (s t : State) : Prop where
  clock : t.clock = s.clock
  servo : t.servo = { s.servo with entry := t.servo.entry }
  status : t.frame.status = s.frame.status
  defn : t.frame.defn = s.frame.defn
  idle : s.inTest = false → t.frame = s.frame ∧ t.servo = s.servo

theorem State.KeepsLoop.refl (s : State) : s.KeepsLoop s := ⟨rfl, rfl, rfl, rfl, fun _ => ⟨rfl, rfl⟩⟩

theorem State.KeepsLoop.trans {s t u : State} (h : s.KeepsLoop t) (h' : t.KeepsLoop u) : s.KeepsLoop u where
  clock := h'.clock.trans h.clock
  servo := by rw [h'.servo, h.servo]
  status := h'.status.trans h.status
  defn := h'.defn.trans h.defn
  idle hs := by
    obtain ⟨hframe, hservo⟩ := h.idle hs
    have ht : t.inTest = false := by rw [State.inTest, hframe]; exact hs
    obtain ⟨hframe', hservo'⟩ := h'.idle ht
    exact ⟨hframe'.trans hframe, hservo'.trans hservo⟩

/-- A chain whose last link comes first, so that the state it ends in says what lies between. -/
theorem State.KeepsLoop.after {s t u : State} (h' : t.KeepsLoop u) (h : s.KeepsLoop t) : s.KeepsLoop u := h.trans h'

/-- Changes of other blocks. -/
theorem State.KeepsLoop.of_blocks {s t : State} (hclock : t.clock = s.clock) (hframe : t.frame = s.frame)
    (hservo : t.servo = s.servo) : s.KeepsLoop t :=
  ⟨hclock, by rw [hservo], by rw [hframe], by rw [hframe], fun _ => ⟨hframe, hservo⟩⟩

section
variable (s : State)

theorem keepsLoop_record (k : EventKind) (d : Word32) (c : EventClass) : s.KeepsLoop (s.record k d c) :=
  .of_blocks (record_clock s k d c) (record_frame s k d c) (record_servo s k d c)

theorem afterTest_settings (f : Frame) (o : TestOutcome) (speed : Option Int) (startPos : Int) :
    (f.afterTest o speed startPos).status = f.status ∧ (f.afterTest o speed startPos).defn = f.defn := by
  cases o <;> cases speed <;> exact ⟨rfl, rfl⟩

theorem keepsLoop_endTest (o : TestOutcome) (n : Nat) (h : s.inTest = true) : s.KeepsLoop (s.endTest o n) where
  clock := endTest_clock s o n
  servo := by rw [endTest_servo]
  status := by rw [endTest_frame]; exact (afterTest_settings ..).1
  defn := by rw [endTest_frame]; exact (afterTest_settings ..).2
  idle hs := by rw [h] at hs; cases hs

/-- An occurrence of a kind whose severity can be set. -/
theorem keepsLoop_raise_of_severity (k : EventKind) (d : Word32) {v : Severity} (h : s.classOf k = v.toClass) :
    s.KeepsLoop (s.raise k d) := by
  rw [raise_of_severity s k d v h]
  split_ifs with _ htest
  · exact keepsLoop_record s k d _
  · exact (keepsLoop_record s k d _).trans
      (keepsLoop_endTest _ _ _ (by rw [record_inTest]; exact (inTest_iff s).2 htest))
  · exact keepsLoop_record s k d _

theorem keepsLoop_setHold (c : HoldCause) : s.KeepsLoop (s.setHold c) := by
  by_cases ht : s.frame.state = .testing
  · have hin : s.inTest = true := (inTest_iff s).2 (.inl ht)
    rw [setHold_of_testing s c ht]
    refine .after (keepsLoop_record _ _ _ _) ⟨rfl, rfl, rfl, rfl, fun h => ?_⟩
    rw [hin] at h
    cases h
  · by_cases hh : s.frame.state = .held
    · rw [setHold_of_held s c hh]
      exact .of_blocks rfl rfl rfl
    · rw [setHold_of_not_inTest s c ht hh]
      exact .refl s

theorem keepsLoop_settleStrain : s.KeepsLoop s.settleStrain :=
  .of_blocks (settleStrain_clock s) (settleStrain_frame s) (settleStrain_servo s)

theorem keepsLoop_raiseGaps (samples : List Sample) : s.KeepsLoop (s.raiseGaps samples) := by
  induction samples generalizing s with
  | nil => exact .refl s
  | cons x rest ih =>
    refine State.KeepsLoop.trans ?_ (ih _)
    dsimp only
    split_ifs
    · exact keepsLoop_raise_of_severity s _ _ rfl
    · exact .refl s

theorem keepsLoop_drain : s.KeepsLoop s.drain :=
  .after (keepsLoop_settleStrain _) <| .after (keepsLoop_raiseGaps _ _) <| .of_blocks rfl rfl rfl

theorem keepsLoop_raiseLost (detail : Nat) : s.KeepsLoop (s.raiseLost detail) := by
  have hraise := keepsLoop_raise_of_severity s .extLost (BitVec.ofNat 32 detail) rfl
  unfold State.raiseLost
  dsimp only
  split_ifs
  · exact hraise.trans (keepsLoop_setHold _ _)
  · exact hraise

theorem keepsLoop_starve (xh : Int) : s.KeepsLoop (s.starve xh) := by
  unfold State.starve
  split_ifs
  · exact .after (keepsLoop_settleStrain _) <| .after (keepsLoop_raiseLost _ _) <| .of_blocks rfl rfl rfl
  · exact .refl s

theorem keepsLoop_giveStrain (xh : Int) (starved : Option Int) : s.KeepsLoop (s.giveStrain xh starved).1 := by
  unfold State.giveStrain
  split_ifs
  · split
    · exact .refl s
    · split <;> exact .of_blocks rfl rfl rfl
    · split <;> exact .of_blocks rfl rfl rfl
    · exact .refl s
  · exact .refl s

theorem keepsLoop_strainStep (p force : Int) : s.KeepsLoop (s.strainStep p force).1 :=
  (keepsLoop_settleStrain s).trans ((keepsLoop_drain _).trans ((keepsLoop_starve _ _).trans (keepsLoop_giveStrain _ _ _)))

/-! ### Control and supervision -/

theorem control_clock (p force eps : Int) : (s.control p force eps).1.clock = s.clock := by
  unfold State.control
  split_ifs <;> rfl

theorem control_servo_start (p force eps : Int) : (s.control p force eps).1.servo.startTime = s.servo.startTime ∧
    (s.control p force eps).1.servo.startPos = s.servo.startPos := by
  unfold State.control
  split_ifs
  · exact ⟨rfl, rfl⟩
  · dsimp only
    split_ifs <;> exact ⟨rfl, rfl⟩

/-- What the supervisor leaves of the clock, the loop and the frame's settings: the setpoint may be frozen. -/
structure State.KeepsDemand (s t : State) : Prop where
  clock : t.clock = s.clock
  servo : t.servo = { s.servo with sp := t.servo.sp, q := t.servo.q, entry := t.servo.entry }
  remainder : t.servo.q = s.servo.q ∨ t.servo.q = 0

theorem State.KeepsDemand.trans {s t u : State} (h : s.KeepsDemand t) (h' : t.KeepsDemand u) : s.KeepsDemand u where
  clock := h'.clock.trans h.clock
  servo := by rw [h'.servo, h.servo]
  remainder := h'.remainder.elim (fun e => e ▸ h.remainder) .inr

theorem State.KeepsLoop.keepsDemand {s t : State} (h : s.KeepsLoop t) : s.KeepsDemand t :=
  ⟨h.clock, by rw [h.servo], .inl (by rw [h.servo])⟩

theorem keepsDemand_raise_moveEnd (k : EventKind) (d : Word32) (h : s.classOf k = .info ∨ s.classOf k = .warning) :
    s.KeepsDemand (s.raise k d) := by
  rw [raise_of_mild s k d h]
  exact (keepsLoop_record s k d _).keepsDemand

theorem keepsDemand_onFrame (g : Frame → Frame) : s.KeepsDemand (s.onFrame g) := ⟨rfl, rfl, .inl rfl⟩

theorem keepsDemand_freeze (p : Int) : s.KeepsDemand (s.onServo (·.freeze p)) := ⟨rfl, rfl, .inr rfl⟩

theorem keepsDemand_limitMove (p : Int) (gate : Gate) (m : Move) : s.KeepsDemand (s.limitMove p gate m) := by
  by_cases hgate : gate = .none
  · rw [State.limitMove, if_pos hgate]
    exact keepsDemand_onFrame s _
  · have hstopped := (keepsDemand_onFrame s (·.endMove)).trans (keepsDemand_freeze _ p)
    rw [limitMove_of_gate hgate]
    split
    · exact hstopped.trans (keepsDemand_raise_moveEnd _ _ _ (.inr rfl))
    · exact hstopped

theorem keepsDemand_superviseMove (p : Int) (gate : Gate) (m : Move) : s.KeepsDemand (s.superviseMove p gate m) := by
  by_cases h : (m.seen s.servo.sp).reached = true ∧ ∃ goal ∈ m.target, (p - goal).natAbs ≤ 50
  · obtain ⟨hr, goal, hg, hn⟩ := h
    rw [superviseMove_of_near hg hr hn]
    split_ifs
    · exact (keepsDemand_onFrame s _).trans (keepsDemand_raise_moveEnd _ _ _ (.inl rfl))
    · exact keepsDemand_onFrame s _
  · rw [superviseMove_of_not_near h]
    exact keepsDemand_limitMove s p gate _

theorem keepsDemand_superviseTest (gate : Gate) : s.KeepsDemand (s.superviseTest gate) := by
  by_cases h : gate = .none ∨ s.frame.gateActed = true
  · rw [superviseTest_of_no_gate h]
    exact keepsDemand_onFrame s _
  · obtain ⟨hgate, hfirst⟩ := not_or.1 h
    rw [superviseTest_of_gate hgate (by simpa using hfirst)]
    exact (keepsDemand_onFrame s _).trans (keepsLoop_raise_of_severity _ _ _ rfl).keepsDemand

theorem keepsDemand_supervise (p : Int) (gate : Gate) : s.KeepsDemand (s.supervise p gate) := by
  have hrefl := (State.KeepsLoop.refl s).keepsDemand
  unfold State.supervise
  split
  · split
    · exact keepsDemand_superviseMove s _ _ _
    · exact hrefl
  · split
    · exact keepsDemand_superviseMove s _ _ _
    · exact hrefl
  · exact keepsDemand_superviseTest s _
  · exact keepsDemand_superviseTest s _
  all_goals exact hrefl

/-- The steps before the point leave the clock, the start time and the start position. -/
theorem driven_start (p force : Int) : (s.driven p force).clock = s.clock ∧
    (s.driven p force).servo.startTime = s.servo.startTime ∧ (s.driven p force).servo.startPos = s.servo.startPos := by
  have hstrain := keepsLoop_strainStep s p force
  have hcontrol := control_servo_start (s.strainStep p force).1 p force (s.strainStep p force).2
  have hsupervise := keepsDemand_supervise ((s.strainStep p force).1.control p force (s.strainStep p force).2).1 p
    ((s.strainStep p force).1.control p force (s.strainStep p force).2).2
  refine ⟨?_, ?_, ?_⟩
  · exact hsupervise.clock.trans ((control_clock ..).trans hstrain.clock)
  · rw [State.driven, hsupervise.servo, hcontrol.1, hstrain.servo]
  · rw [State.driven, hsupervise.servo, hcontrol.2, hstrain.servo]

end

/-! ### The point of an update (R45 to R47) -/

/-- Settles O48: the point of a test, and the idle point. -/
theorem servoUpdateMakesItsStepsInOrder : Obligations.ServoUpdateMakesItsStepsInOrder := by
  intro s encoder still down b p f given driven u testing report
  obtain ⟨hclock, htime, hpos⟩ := driven_start b p f
  have hexec : exec (.servoUpdate encoder still) s =
      .next ((u.makePoint p f given.2).onServo (·.report)).transmit := rfl
  have htesting : u.inTest = true ↔ testing := inTest_iff u
  constructor
  · intro htest point
    have hpoint : u.testPoint p f given.2 = point := by
      rw [State.testPoint, show u.clock = s.clock + 1 from hclock, show u.servo.startTime = s.servo.startTime from htime,
        show u.servo.startPos = s.servo.startPos from hpos]
    rw [hexec, State.makePoint, if_pos (htesting.2 htest), hpoint]
    rfl
  · intro htest out point
    have hpoint : out.idlePoint p f = point := by
      rw [State.idlePoint, outside_eq, show out.clock = s.clock + 1 from (settleStrain_clock u).trans hclock] <;> rfl
    rw [hexec, State.makePoint, if_neg (mt htesting.1 htest)]
    change Host.Outcome.next (State.transmit ((out.onServo fun v => { v with latest := out.idlePoint p f }).onServo
      (·.report))) = _
    rw [hpoint]
    rfl

end Sys2Proof.Machine
end

section
/-! The strain of a servo update (spec/05) and its control computation (spec/02, sections 2.2 to 2.7). -/

namespace Sys2Proof.Machine

/-! ### The strain source at an update (R86 to R102) -/

theorem unzeroedState_eq (s : State) : s.unzeroedState = if s.ext.state = .locked then .fitted else .absent := rfl

/-- R102: the strain source's test states, once the test has ended. -/
theorem strainTestEnd_eq (s : State) : s.strainTestEnd = s.onStrain fun x =>
    if s.inTest = false ∧ (x.state = .following ∨ x.state = .derived ∨ x.state = .removing) then
      { x with
        state := if x.state = .removing then .removing else if s.ext.state = .locked then .fitted else .absent
        zero := none, gauge := none, pendingSwitch := none, ofTest := false }
    else x := by
  unfold State.strainTestEnd
  cases hin : s.inTest with
  | true => rfl
  | false => cases hx : s.strain.state <;> simp [State.onStrain, hx, unzeroedState_eq]

theorem settleStrain_eq (s : State) : s.settleStrain = { s with
    mail := s.mail.erase .strainSourceTestEnd
    strain :=
      if .strainSourceTestEnd ∈ s.mail ∧ s.inTest = false ∧
          (s.strain.state = .following ∨ s.strain.state = .derived ∨ s.strain.state = .removing) then
        { s.strain with
          state := if s.strain.state = .removing then .removing else if s.ext.state = .locked then .fitted else .absent
          zero := none, gauge := none, pendingSwitch := none, ofTest := false }
      else s.strain } := by
  by_cases h : Notice.strainSourceTestEnd ∈ s.mail
  · rw [State.settleStrain, if_pos h, strainTestEnd_eq]
    simp only [h, true_and]
    rfl
  · rw [settleStrain_of_not_mem s h, List.erase_of_not_mem h, if_neg fun hs => h hs.1]

theorem take_eq (x : Strain) (samples : List Sample) (inTest : Bool) : x.take samples inTest = { x with
    heldMean := if samples.filter (fun y => !y.checkBad) = [] then x.heldMean
      else roundDiv (sumOf ((samples.filter fun y => !y.checkBad).map fun y => y.elongation))
        (samples.filter fun y => !y.checkBad).length
    starvation := if samples.filter (fun y => !y.checkBad) = [] then min 65535 (x.starvation + 1) else 0
    gapCount := if inTest then min 65535 (x.gapCount + (samples.filter (·.gap)).length) else x.gapCount
    badCount := if inTest then min 65535 (x.badCount + (samples.filter (·.checkBad)).length) else x.badCount } := by
  unfold Strain.take
  cases hg : samples.filter (fun y => !y.checkBad) <;> cases inTest <;> simp [saturate]

section
variable {s : State} {xh : Int} {starved : Option Int}

theorem giveStrain_of_not_inTest (h : s.inTest = false) : s.giveStrain xh starved = (s, s.strain.outside) :=
  if_neg (by rw [h]; exact Bool.false_ne_true)

theorem giveStrain_of_following (h : s.inTest = true) (hx : s.strain.state = .following) :
    s.giveStrain xh starved = (s, s.strain.following) := by
  rw [State.giveStrain, if_pos h, hx]

/-- R91: a pending switch is completed. -/
theorem giveStrain_of_switch {carry : Int} (h : s.inTest = true)
    (hx : s.strain.state = .derived ∨ s.strain.state = .removing) (hp : s.strain.pendingSwitch = some carry) :
    s.giveStrain xh starved = (s.onStrain fun x => { x with k := carry - xh, pendingSwitch := none }, carry) := by
  rcases hx with hx | hx <;> rw [State.giveStrain, if_pos h, hx, hp]

theorem giveStrain_of_derived (h : s.inTest = true)
    (hx : s.strain.state = .derived ∨ s.strain.state = .removing) (hp : s.strain.pendingSwitch = none) :
    s.giveStrain xh starved = (s, starved.getD (sat32 (xh + s.strain.k))) := by
  rcases hx with hx | hx <;> rw [State.giveStrain, if_pos h, hx, hp]

theorem starve_of_not (h : ¬(s.inTest = true ∧ s.strain.state = .following ∧ 20 ≤ s.strain.starvation)) :
    s.starve xh = s :=
  if_neg h

end

/-- The strain step without a loss by starvation. -/
theorem strainStep_of_not_starved {s b : State} {p force : Int} (hb : b = s.settleStrain.drain)
    (h : ¬(b.inTest = true ∧ b.strain.state = .following ∧ 20 ≤ b.strain.starvation)) :
    s.strainStep p force = b.giveStrain
      (crossheadStrain b.frame.defn.compliance force (p - b.servo.startPos) b.strain.parallel) none := by
  subst hb
  change ((s.settleStrain.drain.starve _).giveStrain _ (if _ then _ else _)) = _
  rw [starve_of_not h, if_neg h]

/-- The strain step with a loss by starvation (R100). -/
theorem strainStep_of_starved {s b : State} {p force : Int} (hb : b = s.settleStrain.drain)
    (h : b.inTest = true ∧ b.strain.state = .following ∧ 20 ≤ b.strain.starvation) :
    s.strainStep p force = (((b.onStrain fun x => { x with
        state := .derived
        k := b.servo.latest.eps - crossheadStrain b.frame.defn.compliance force (p - b.servo.startPos) b.strain.parallel
        switchCount := x.switchCount + 1 }).raiseLost 2).settleStrain).giveStrain
      (crossheadStrain b.frame.defn.compliance force (p - b.servo.startPos) b.strain.parallel)
      (some b.servo.latest.eps) := by
  subst hb
  change ((s.settleStrain.drain.starve _).giveStrain _ (if _ then _ else _)) = _
  rw [State.starve, if_pos h, if_pos h]

theorem raiseLost_of_warning {s : State} (detail : Nat) (h : s.events.severities.extLost = .warning) :
    s.raiseLost detail = if s.program.map (·.extLostAction) = some .hold then
      (s.record .extLost (BitVec.ofNat 32 detail) .warning).setHold .extLost
    else s.record .extLost (BitVec.ofNat 32 detail) .warning := by
  have hclass : s.classOf .extLost = .warning := congrArg Severity.toClass h
  rw [State.raiseLost, raise_of_mild s _ _ (.inr hclass), hclass]
  refine if_congr ?_ rfl rfl
  cases s.program <;> simp

theorem raiseLost_of_testFault {s : State} (detail : Nat) (h : s.events.severities.extLost = .testFault)
    (hin : s.inTest = true) : s.raiseLost detail =
      (s.record .extLost (BitVec.ofNat 32 detail) .testFault).endTest .testFault 21 := by
  have hclass : s.classOf .extLost = .testFault := congrArg Severity.toClass h
  have hnot : ¬(EventClass.testFault = .warning ∧ s.program.any (fun p => p.extLostAction = .hold) = true) :=
    fun hw => nomatch hw.1
  rw [State.raiseLost, raise_of_testFault s _ _ hclass, hclass]
  exact (if_neg hnot).trans (if_pos hin)

/-- A hold leaves the strain source and the notices, and no test ends by it. -/
theorem setHold_keeps (s : State) (c : HoldCause) :
    (s.setHold c).strain = s.strain ∧ (s.setHold c).mail = s.mail ∧ (s.setHold c).inTest = s.inTest := by
  by_cases ht : s.frame.state = .testing
  · rw [setHold_of_testing s c ht]
    refine ⟨record_strain .., record_mail .., (record_inTest ..).trans ?_⟩
    exact ((inTest_iff s).2 (.inl ht)).symm
  · by_cases hh : s.frame.state = .held
    · rw [setHold_of_held s c hh]
      exact ⟨rfl, rfl, rfl⟩
    · rw [setHold_of_not_inTest s c ht hh]
      exact ⟨rfl, rfl, rfl⟩

/-- The strain given at once at a loss by starvation: that of the update before (R100). -/
theorem giveStrain_of_lost {s : State} {xh before : Int} (hin : s.inTest = true) (hx : s.strain.state = .derived)
    (hp : s.strain.pendingSwitch = none) (hmail : .strainSourceTestEnd ∉ s.mail) :
    s.settleStrain.giveStrain xh (some before) = (s, before) := by
  rw [settleStrain_of_not_mem s hmail, giveStrain_of_derived hin (.inl hx) hp]
  rfl

/-- A test that has just ended gives the strain of no zero. -/
theorem giveStrain_of_ended {s : State} {xh : Int} {starved : Option Int} (hin : s.inTest = false)
    (hx : s.strain.state = .derived) (hmail : .strainSourceTestEnd ∈ s.mail) :
    s.settleStrain.giveStrain xh starved = (s.settleStrain, 0) := by
  rw [giveStrain_of_not_inTest (by rwa [settleStrain_inTest])]
  refine congrArg (Prod.mk _) (if_neg ?_)
  rw [settleStrain_eq]
  dsimp only
  rw [if_pos ⟨hmail, hin, .inr (.inl hx)⟩, hx]
  dsimp only
  split_ifs <;> decide

/-- Settles O49: a test end on its way, the drain, and the strain of each state. -/
theorem updatesTakeTheSamplesAndGiveTheStrain : Obligations.UpdatesTakeTheSamplesAndGiveTheStrain := by
  refine ⟨settleStrain_eq, fun s => ?_, ?_⟩
  · intro good taken told
    have htaken : (s.onExt fun r => { r with fifo := [] }).onStrain (·.take s.ext.fifo s.inTest) = taken := by
      simp only [State.onStrain, take_eq]
      rfl
    exact congrArg (fun t => (State.raiseGaps t s.ext.fifo).settleStrain) htaken
  · intro s p f b d xh ofMean before
    have hmean : b.strain.following = ofMean := rfl
    refine ⟨fun hin => ?_, fun hin hx hs => ?_, ?_, ?_⟩
    · rw [strainStep_of_not_starved rfl fun h => by rw [hin] at h; exact nomatch h.1]
      exact giveStrain_of_not_inTest hin
    · rw [strainStep_of_not_starved rfl fun h => absurd h.2.2 (Nat.not_le.2 hs)]
      exact giveStrain_of_following hin hx
    · intro hin hx hs hp hmail lost
      rw [strainStep_of_starved (b := b) rfl ⟨hin, hx, hs⟩]
      change (∀ _, (State.giveStrain (lost.raiseLost 2).settleStrain xh (some before)) = _) ∧
        ∀ _, (State.giveStrain (lost.raiseLost 2).settleStrain xh (some before)) = _
      refine ⟨fun hseverity => ?_, fun hseverity => ?_⟩
      · rw [raiseLost_of_warning (s := lost) 2 hseverity, show lost.program = b.program from rfl]
        obtain ⟨hstrain, hkept, htest⟩ := setHold_keeps (lost.record .extLost 2 .warning) .extLost
        have hderived := record_strain lost .extLost 2 .warning
        have hnotices := record_mail lost .extLost 2 .warning
        have hrunning := (record_inTest lost .extLost 2 .warning).trans hin
        split_ifs
        · exact giveStrain_of_lost (htest.trans hrunning) (congrArg Strain.state (hstrain.trans hderived))
            ((congrArg Strain.pendingSwitch (hstrain.trans hderived)).trans hp) (fun hm => hmail (hnotices ▸ hkept ▸ hm))
        · exact giveStrain_of_lost hrunning (congrArg Strain.state hderived)
            ((congrArg Strain.pendingSwitch hderived).trans hp) (fun hm => hmail (hnotices ▸ hm))
      · rw [raiseLost_of_testFault (s := lost) 2 hseverity hin]
        refine giveStrain_of_ended ?_ ?_ ?_
        · rw [State.inTest, endTest_frame]
          exact afterTest_inTest _ _ _ _ nofun
        · rw [endTest_strain, record_strain]
        · rw [endTest_mail]
          simp
    · intro hin hx
      have hnot : ¬(b.inTest = true ∧ b.strain.state = .following ∧ 20 ≤ b.strain.starvation) := by
        rintro ⟨-, hf, -⟩
        rw [hf] at hx
        rcases hx with h | h <;> cases h
      rw [strainStep_of_not_starved rfl hnot]
      exact ⟨fun carry hp => giveStrain_of_switch hin hx hp, fun hp => giveStrain_of_derived hin hx hp⟩

end Sys2Proof.Machine
end

section
/-! The control computation of an update (spec/02, sections 2.2 to 2.7), and the updates of a tracking loop and of a
running stage. -/

namespace Sys2Proof.Machine

/-! ### What the loop controls (R28) -/

theorem resolve_of_ready {s : State} (h : s.frame.state = .ready) :
    s.resolve = { channel := .position, rate := 0, target := none } := by
  rw [State.resolve, h]

theorem resolve_of_moving {s : State} {m : Move} (h : s.frame.state = .moving ∨ s.frame.state = .returning)
    (hm : s.frame.move = some m) : s.resolve = { channel := .position, rate := m.rate, target := m.target } := by
  rcases h with h | h <;> rw [State.resolve, h, hm]

theorem stageInForce_eq {s : State} {n : Nat} {g : Stage} (hn : s.seq.stage = some n) (hg : s.stageAt n = some g) :
    s.stageInForce = some g := by
  rw [State.stageInForce, hn]
  exact hg

theorem resolve_of_testing {s : State} {n : Nat} {g : Stage} (h : s.frame.state = .testing) (hn : s.seq.stage = some n)
    (hg : s.stageAt n = some g) : s.resolve =
      { channel := g.channel, rate := Int.tdiv (form64 (g.rate * s.servo.override)) 100
        target := if g.end1.kind = .target then some g.end1.value
          else if g.end2.kind = .target then some g.end2.value else none } := by
  rw [State.resolve, h, stageInForce_eq hn hg]
  rfl

theorem holdsPosition_iff (s : State) : s.holdsPosition = true ↔ s.program.map (·.holdMode) = some .holdPosition := by
  unfold State.holdsPosition
  cases s.program <;> simp

theorem resolve_of_held_channel {s : State} {n : Nat} {g : Stage} (h : s.frame.state = .held)
    (hmode : s.program.map (·.holdMode) = some .holdChannel) (hn : s.seq.stage = some n) (hg : s.stageAt n = some g) :
    s.resolve = { channel := g.channel, rate := 0, target := none } := by
  have hnot : ¬s.holdsPosition = true := by
    rw [holdsPosition_iff, hmode]
    decide
  rw [State.resolve, h, stageInForce_eq hn hg]
  exact if_neg hnot

theorem resolve_of_held_position {s : State} (h : s.frame.state = .held)
    (hmode : s.program.map (·.holdMode) = some .holdPosition) :
    s.resolve = { channel := .position, rate := 0, target := none } := by
  rw [State.resolve, h]
  exact if_pos ((holdsPosition_iff s).2 hmode)

/-! ### The control computation (R29 to R44) -/

theorem feedback_eq (p force eps : Int) (c : Channel) : feedback p force eps c = (match c with
    | .position => p
    | .force => force
    | .strain => eps) := by
  cases c <;> rfl

theorem gains_eq (f : Frame) (c : Channel) : f.gains c = (match c with
    | .position => f.gainsPosition
    | .force => f.gainsForce
    | .strain => f.gainsStrain) := by
  cases c <;> rfl

/-- R32 and R33: the advance, exact and not past the target. -/
theorem advance_eq (sp q rate : Int) (target : Option Int) : advance sp q rate target = (match target with
    | none => (sp + (q + rate) / 1000, q + rate - 1000 * ((q + rate) / 1000))
    | some goal =>
      if rate = 0 then (sp + (q + rate) / 1000, q + rate - 1000 * ((q + rate) / 1000))
      else if sp = goal ∨ 0 < rate ∧ sp < goal ∧ goal ≤ sp + (q + rate) / 1000 ∨
          rate < 0 ∧ goal < sp ∧ sp + (q + rate) / 1000 ≤ goal then (goal, 0)
      else (sp + (q + rate) / 1000, q + rate - 1000 * ((q + rate) / 1000))) := by
  cases target with
  | none => rfl
  | some goal =>
    unfold advance
    by_cases hr : rate = 0
    · exact (if_pos hr).trans (if_pos hr).symm
    · refine (if_neg hr).trans (Eq.trans ?_ (if_neg hr).symm)
      by_cases hs : sp = goal
      · exact (if_pos hs).trans (if_pos (.inl hs)).symm
      · exact (if_neg hs).trans (if_congr (by simp only [hs, false_or]; rfl) rfl rfl)

theorem tracks_iff (x : FrameState) :
    x.tracks = true ↔ x = .undefined ∨ x = .driveOff ∨ x = .enabling ∨ x = .faulted := by
  cases x <;> decide

theorem control_of_tracking {s : State} {p force eps : Int} (h : s.frame.state.tracks = true) :
    s.control p force eps = (s.onServo (·.track p), .none) :=
  if_pos h

/-- The loop at a bumpless entry, or as it stands (R39, R40). -/
theorem entered_eq (v : Servo) (c : Prop) [Decidable c] (y rate : Int) (g : Gains) :
    (if c then v.enter y rate g else v) = { v with
      sp := if c then y else v.sp
      q := if c then 0 else v.q
      iAcc := if c then sat64 ((v.uLast - roundDiv (form128 (rate * g.kf)) 65536) * 65536) else v.iAcc } := by
  split_ifs <;> rfl

/-- The frame after an entry, whose return has its sign (R23). -/
theorem signed_eq (f : Frame) (c : Prop) [Decidable c] (sp : Int) : (if c then f.signReturn sp else f) = { f with
    move := if c then f.move.map (fun m => match m.kind, m.target with
      | .returning, some goal => { m with
          rate := if sp < goal then m.rate.natAbs else if goal < sp then -(m.rate.natAbs : Int) else 0 }
      | _, _ => m) else f.move } := by
  split_ifs <;> rfl

/-- The control law of an update with its freeze, from the error and the feed-forward term (R34, R35). -/
theorem controlLaw_eq (e rate iAcc vmax : Int) (g : Gains) :
    controlLaw e rate iAcc vmax g =
      (if vmax < feedForward rate g.kf + roundDiv (form128 (g.kp * e)) 65536 +
            roundDiv (sat64 (form128 (iAcc + g.ki * e))) 65536 ∧ 0 < e ∨
          feedForward rate g.kf + roundDiv (form128 (g.kp * e)) 65536 +
            roundDiv (sat64 (form128 (iAcc + g.ki * e))) 65536 < -vmax ∧ e < 0 then
        feedForward rate g.kf + roundDiv (form128 (g.kp * e)) 65536 + roundDiv iAcc 65536
      else feedForward rate g.kf + roundDiv (form128 (g.kp * e)) 65536 +
        roundDiv (sat64 (form128 (iAcc + g.ki * e))) 65536,
      if vmax < feedForward rate g.kf + roundDiv (form128 (g.kp * e)) 65536 +
            roundDiv (sat64 (form128 (iAcc + g.ki * e))) 65536 ∧ 0 < e ∨
          feedForward rate g.kf + roundDiv (form128 (g.kp * e)) 65536 +
            roundDiv (sat64 (form128 (iAcc + g.ki * e))) 65536 < -vmax ∧ e < 0 then iAcc
      else sat64 (form128 (iAcc + g.ki * e))) := by
  unfold controlLaw
  dsimp only
  split_ifs <;> rfl

/-- Settles O50: tracking, and the control of the channel that the frame state resolves. -/
theorem updatesControlTheirChannel : Obligations.UpdatesControlTheirChannel := by
  refine ⟨fun s p f eps h => control_of_tracking ((tracks_iff _).2 h), ?_⟩
  intro s p f eps rate c target stage mode hcases v defn y gains enters r ff sp q iAcc step ahead a e prop iNew trial
    freezes raw within gate u signed
  have hresolve : s.resolve = { channel := c, rate := rate, target := target } := by
    rcases hcases with ⟨h, rfl, rfl, rfl⟩ | ⟨m, h, hm, rfl, rfl, rfl⟩ | ⟨g, h, ⟨n, hn, hg⟩, rfl, rfl, rfl⟩ |
      ⟨g, h, hmode, ⟨n, hn, hg⟩, rfl, rfl, rfl⟩ | ⟨h, hmode, rfl, rfl, rfl⟩
    · exact resolve_of_ready h
    · exact resolve_of_moving h hm
    · exact resolve_of_testing h hn hg
    · exact resolve_of_held_channel h hmode hn hg
    · exact resolve_of_held_position h hmode
  have htracks : ¬s.frame.state.tracks = true := by
    rw [tracks_iff]
    rcases hcases with ⟨h, -⟩ | ⟨m, h | h, -⟩ | ⟨g, h, -⟩ | ⟨g, h, -⟩ | ⟨h, -⟩ <;> rw [h] <;> decide
  have hy : feedback p f eps c = y := feedback_eq p f eps c
  have hgains : s.frame.gains c = gains := gains_eq s.frame c
  have hrate : (if (s.servo.entry = true ∨ c ≠ s.servo.channel) ∧ ¬s.inTest = true then 0 else rate) = r :=
    if_congr (by rw [Bool.not_eq_true]) rfl rfl
  unfold State.control
  rw [if_neg htracks, hresolve]
  dsimp only
  rw [hy, hgains, hrate, entered_eq, signed_eq]
  dsimp only
  rw [advance_eq, controlLaw_eq]
  rfl

end Sys2Proof.Machine
end

section
/-! The update of a tracking loop and of a running stage (spec/02, section 2.2), the drive enable output (spec/01, section
1.1), and the demand's bounds (spec/02, sections 2.3 and 2.4). -/

namespace Sys2Proof.Machine

/-! ### An update without samples -/

/-- The strain source after an update with an empty sample FIFO (R86). -/
def Strain.unfed (x : Strain) (inTest : Bool) : Strain :=
  { x with
    starvation := min 65535 (x.starvation + 1)
    gapCount := if inTest then min 65535 x.gapCount else x.gapCount
    badCount := if inTest then min 65535 x.badCount else x.badCount }

theorem take_nil (x : Strain) (inTest : Bool) : x.take [] inTest = x.unfed inTest := by
  rw [take_eq]
  rfl

theorem drain_of_empty {s : State} (hf : s.ext.fifo = []) (hm : .strainSourceTestEnd ∉ s.mail) :
    s.settleStrain.drain = s.onStrain (·.unfed s.inTest) := by
  have hext : (s.onExt fun r => { r with fifo := [] }) = s := by
    rw [State.onExt, ← hf]
  rw [settleStrain_of_not_mem s hm, State.drain, hf, hext]
  simp only [State.onStrain, take_nil]
  exact settleStrain_of_not_mem _ hm

theorem supervise_of_still {s : State} {p : Int} {gate : Gate} (h : s.frame.state = .ready ∨ s.frame.state = .undefined ∨
    s.frame.state = .driveOff ∨ s.frame.state = .enabling ∨ s.frame.state = .faulted) : s.supervise p gate = s := by
  rcases h with h | h | h | h | h <;> rw [State.supervise, h]

theorem inTest_of_tracks {s : State} (h : s.frame.state.tracks = true) : s.inTest = false := by
  rw [inTest_eq_false_iff]
  rcases (tracks_iff _).1 h with h | h | h | h <;> rw [h] <;> decide

theorem supervise_of_tracks {s : State} {p : Int} {gate : Gate} (h : s.frame.state.tracks = true) :
    s.supervise p gate = s := by
  rcases (tracks_iff _).1 h with h | h | h | h
  · exact supervise_of_still (.inr (.inl h))
  · exact supervise_of_still (.inr (.inr (.inl h)))
  · exact supervise_of_still (.inr (.inr (.inr (.inl h))))
  · exact supervise_of_still (.inr (.inr (.inr (.inr h))))

/-- The update of a loop that tracks, from the state the strain source leaves. -/
theorem servoStep_of_tracking {s t : State} {eps : Int}
    (hstrain : s.strainStep s.frame.position s.force.filtered = (t, eps)) (h : t.frame.state.tracks = true) :
    s.servoStep = ((t.onServo (·.track s.frame.position)).makePoint s.frame.position s.force.filtered eps).onServo
      (·.report) := by
  rw [servoStep_eq, State.driven, hstrain]
  dsimp only
  rw [control_of_tracking h, supervise_of_tracks (by exact h)]

theorem makePoint_of_not_inTest {s : State} {p force eps : Int} (h : s.inTest = false)
    (hm : .strainSourceTestEnd ∉ s.mail) :
    s.makePoint p force eps = s.onServo fun v => { v with latest := s.idlePoint p force } := by
  rw [State.makePoint, if_neg (Bool.eq_false_iff.1 h), settleStrain_of_not_mem s hm]

/-- Settles O51. -/
theorem trackingUpdateFollowsThePosition : Obligations.TrackingUpdateFollowsThePosition := by
  intro s encoder still h hf hm down p point
  have htracks : s.frame.state.tracks = true := (tracks_iff _).2 h
  have hin : s.inTest = false := inTest_of_tracks htracks
  have hstrain : (s.begun encoder still).strainStep (s.begun encoder still).frame.position
      (s.begun encoder still).force.filtered = ((s.begun encoder still).onStrain (·.unfed false), s.strain.outside) := by
    have hdrain := drain_of_empty (s := s.begun encoder still) hf hm
    rw [show (s.begun encoder still).inTest = false from hin] at hdrain
    rw [strainStep_of_not_starved hdrain.symm fun hs => Bool.eq_false_iff.1 hin hs.1]
    exact giveStrain_of_not_inTest hin
  have hpoint : (((s.begun encoder still).onStrain (·.unfed false)).onServo (·.track p)).idlePoint p s.force.filtered =
      point := by
    rw [State.idlePoint, outside_eq] <;> rfl
  have hidle := makePoint_of_not_inTest (s := ((s.begun encoder still).onStrain (·.unfed false)).onServo (·.track p))
    (p := p) (force := s.force.filtered) (eps := s.strain.outside) hin hm
  rw [hpoint] at hidle
  rw [exec_servoUpdate, servoStep_of_tracking hstrain htracks]
  exact congrArg (fun t => Host.Outcome.next (State.onServo t (·.report)).transmit) hidle

end Sys2Proof.Machine
end

section
/-! The update of a running stage (spec/02, section 2.2), the drive enable output (spec/01, section 1.1), and the demand's
bounds (spec/02, sections 2.3 and 2.4). -/

namespace Sys2Proof.Machine

/-! ### A running stage -/

/-- The strain source after it gives a derived strain, a pending switch completed (R91). -/
def Strain.given (x : Strain) (xh : Int) : Strain :=
  { x with
    k := match x.pendingSwitch with
      | some carry => carry - xh
      | none => x.k
    pendingSwitch := none }

theorem given_of_none {x : Strain} (xh : Int) (h : x.pendingSwitch = none) : x.given xh = x := by
  obtain ⟨⟩ := x
  dsimp only at h
  subst h
  rfl

theorem giveStrain_of_test_strain {s : State} {xh : Int} (hin : s.inTest = true)
    (hx : s.strain.state = .derived ∨ s.strain.state = .removing) :
    s.giveStrain xh none = (s.onStrain (·.given xh), match s.strain.pendingSwitch with
      | some carry => carry
      | none => sat32 (xh + s.strain.k)) := by
  cases hp : s.strain.pendingSwitch with
  | some carry =>
    rw [giveStrain_of_switch hin hx hp, State.onStrain, State.onStrain, Strain.given, hp]
  | none =>
    have hgiven : s.onStrain (·.given xh) = s := by
      rw [State.onStrain, given_of_none xh hp]
    rw [giveStrain_of_derived hin hx hp, hgiven]
    rfl

/-- The control computation where no entry is called for and no travel limit acts (sections 2.3 and 2.4). -/
theorem control_of_settled {s : State} {p force eps rate : Int} {c : Channel} {target : Option Int}
    (htracks : ¬s.frame.state.tracks = true) (hresolve : s.resolve = { channel := c, rate := rate, target := target })
    (hentry : s.servo.entry = false) (hchannel : s.servo.channel = c) {a law : Int × Int} {u : Int}
    (ha : advance s.servo.sp s.servo.q rate target = a)
    (hlaw : controlLaw (a.1 - feedback p force eps c) rate s.servo.iAcc s.frame.defn.vmax (s.frame.gains c) = law)
    (hu : limit (-s.frame.defn.vmax) s.frame.defn.vmax law.1 = u) (hgate : gateOf s.frame.defn p u = .none) :
    s.control p force eps = (s.onServo fun v => { v with
      sp := a.1, q := a.2, iAcc := law.2, uLast := u, dac := dacCode u s.frame.defn.vmax }, .none) := by
  subst hchannel
  have hsettled : ¬(s.servo.entry = true ∨ s.servo.channel ≠ s.servo.channel) := by
    rw [hentry]
    simp
  unfold State.control
  rw [if_neg htracks, hresolve]
  simp only [hsettled, false_and, if_false, ha, hlaw, hu, hgate, if_true, State.onServo, ← hentry]

theorem gateOf_of_inside {d : FrameDefinition} {p u : Int} (hmax : ¬(d.travelMax ≤ p ∧ 0 < u))
    (hmin : ¬(p ≤ d.travelMin ∧ u < 0)) : gateOf d p u = .none :=
  (if_neg hmax).trans (if_neg hmin)

/-- The test point delivered to the four blocks that follow the test (R45, R46). -/
theorem makePoint_of_inTest {s : State} {p force eps : Int} {point : Point} (h : s.inTest = true)
    (hpoint : s.testPoint p force eps = point) : s.makePoint p force eps = { s with
      servo := { s.servo with latest := point, testTime := point.testTime }
      recs := { s.recs with test := s.recs.test.map fun t => { t with pointMade := true } }
      points := { sequencer := s.points.sequencer ++ [point], watch := s.points.watch ++ [point],
                  evaluation := s.points.evaluation ++ [point], removal := s.points.removal ++ [point] } } := by
  subst hpoint
  exact if_pos h

/-- An update in a test at which the travel gating does not act. -/
theorem servoStep_of_ungated {s t u : State} {eps : Int}
    (hstrain : s.strainStep s.frame.position s.force.filtered = (t, eps))
    (hcontrol : t.control s.frame.position s.force.filtered eps = (u, .none)) (h : u.frame.state = .testing) :
    s.servoStep = ((u.onFrame fun f => { f with gateActed := false }).makePoint s.frame.position s.force.filtered
      eps).onServo (·.report) := by
  rw [servoStep_eq, State.driven, hstrain]
  dsimp only
  rw [hcontrol, supervise_of_inTest (.inl h), superviseTest_of_no_gate (.inl rfl)]
  rfl

/-- Settles O52. -/
theorem testingUpdateMakesATestPoint : Obligations.TestingUpdateMakesATestPoint := by
  intro s encoder still n g t hstate hf hm htest hn hg hentry hchannel hderived down defn p f d xh eps y gains rate goal a e
    ff prop iNew trial freezes raw u hmax hmin point
  have hin : s.inTest = true := (inTest_iff s).2 (.inl hstate)
  have hdrain := drain_of_empty (s := s.begun encoder still) hf hm
  rw [show (s.begun encoder still).inTest = true from hin] at hdrain
  have hstrain : (s.begun encoder still).strainStep p f =
      (((s.begun encoder still).onStrain (·.unfed true)).onStrain (·.given xh), eps) := by
    rw [strainStep_of_not_starved hdrain.symm fun hs => by
      have hfollowing : s.strain.state = .following := hs.2.1
      rw [hderived] at hfollowing
      cases hfollowing]
    exact giveStrain_of_test_strain hin (.inl hderived)
  have hlaw : controlLaw (a.1 - feedback p f eps g.channel) rate s.servo.iAcc defn.vmax (s.frame.gains g.channel) =
      (raw, if freezes then s.servo.iAcc else iNew) := by
    rw [feedback_eq, gains_eq, controlLaw_eq] <;> rfl
  have hcontrol := control_of_settled (s := ((s.begun encoder still).onStrain (·.unfed true)).onStrain (·.given xh))
    (p := p) (force := f) (eps := eps) (rate := rate) (c := g.channel) (target := goal) (u := u)
    (fun htracks => Bool.eq_false_iff.1 (inTest_of_tracks (s := s) htracks) hin)
    (resolve_of_testing hstate hn hg) hentry hchannel rfl hlaw rfl (gateOf_of_inside hmax hmin)
  have hrecs : (some { t with pointMade := true } : Option TestInProgress) =
      s.recs.test.map fun t => { t with pointMade := true } := by
    rw [htest]
    rfl
  rw [exec_servoUpdate, servoStep_of_ungated hstrain hcontrol hstate]
  refine (congrArg (fun t => Host.Outcome.next (State.onServo t (·.report)).transmit)
    (makePoint_of_inTest (point := point) ?_ ?_)).trans ?_
  · exact hin
  · change ({ isTest := true, time := s.clock + 1, testTime := s.clock + 1 - s.servo.startTime, p := p, d := d, f := f,
              eps := eps, source := s.strain.state, stage := s.seq.stage,
              held := decide (s.frame.state = .held) } : Point) = point
    rw [hderived, hn, hstate]
    rfl
  · rw [hrecs, ← hchannel]
    rfl

end Sys2Proof.Machine
end

section
/-! The drive enable output and the drive's requests (spec/01, sections 1.1, 1.5 and 1.6), and the demand's bounds (spec/02,
sections 2.3 and 2.4). -/

namespace Sys2Proof.Machine

/-! ### The loop after the point -/

theorem makePoint_frame (s : State) (p force eps : Int) : (s.makePoint p force eps).frame = s.frame := by
  unfold State.makePoint
  split_ifs
  · rfl
  · exact settleStrain_frame s

theorem makePoint_servo (s : State) (p force eps : Int) : ∃ latest testTime,
    (s.makePoint p force eps).servo = { s.servo with latest := latest, testTime := testTime } := by
  unfold State.makePoint
  split_ifs
  · exact ⟨_, _, rfl⟩
  · exact ⟨s.settleStrain.idlePoint p force, s.servo.testTime,
      congrArg (fun v : Servo => { v with latest := s.settleStrain.idlePoint p force }) (settleStrain_servo s)⟩

/-- The demand, its code, the setpoint and the remainder that an update leaves are those of the supervisor's step. -/
theorem servoStep_loop (s : State) :
    s.servoStep.frame = (s.driven s.frame.position s.force.filtered).frame ∧
    s.servoStep.servo.uLast = (s.driven s.frame.position s.force.filtered).servo.uLast ∧
    s.servoStep.servo.dac = (s.driven s.frame.position s.force.filtered).servo.dac ∧
    s.servoStep.servo.sp = (s.driven s.frame.position s.force.filtered).servo.sp ∧
    s.servoStep.servo.q = (s.driven s.frame.position s.force.filtered).servo.q := by
  obtain ⟨latest, testTime, h⟩ := makePoint_servo (s.driven s.frame.position s.force.filtered) s.frame.position
    s.force.filtered (s.strainStep s.frame.position s.force.filtered).2
  exact ⟨makePoint_frame .., (congrArg Servo.uLast h :), (congrArg Servo.dac h :), (congrArg Servo.sp h :),
    (congrArg Servo.q h :)⟩

theorem driven_of_tracking {s : State} (p force : Int) (h : s.frame.state.tracks = true) :
    s.driven p force = (s.strainStep p force).1.onServo (·.track p) ∧ (s.strainStep p force).1.frame = s.frame := by
  obtain ⟨hframe, -⟩ := (keepsLoop_strainStep s p force).idle (inTest_of_tracks h)
  have htracks : (s.strainStep p force).1.frame.state.tracks = true := by rwa [hframe]
  refine ⟨?_, hframe⟩
  rw [State.driven, control_of_tracking htracks]
  exact supervise_of_tracks (by exact htracks)

/-! ### The drive's requests (R9, R13, R17) -/

theorem driveEnable_iff (x : FrameState) : x.driveEnable = true ↔
    x = .enabling ∨ x = .ready ∨ x = .moving ∨ x = .testing ∨ x = .held ∨ x = .returning := by
  cases x <;> decide

theorem tracks_of_not_driveEnable {x : FrameState} (h : x.driveEnable = false) : x.tracks = true := by
  revert h
  cases x <;> decide

theorem handleDriveOn_eq (s : State) : handleDriveOn s =
    if s.frame.state = .driveOff then
      if s.inputs.driveReady = true ∧ s.inputs.driveFault = false then
        (.ok [], ({ s with frame := { s.frame with state := .ready, driveTimer := none } } : State).record .driveReady 0
          .info)
      else (.ok [], { s with frame := { s.frame with state := .enabling, driveTimer := some 500 } })
    else (.refuse .wrongState 0, s) := by
  have hseen : s.inputs.driveSeen = true ↔ s.inputs.driveReady = true ∧ s.inputs.driveFault = false := by
    simp [Inputs.driveSeen]
  unfold handleDriveOn
  split_ifs with _ h1 h2 h2
  · rfl
  · exact absurd (hseen.1 h1) h2
  · exact absurd (hseen.2 h2) h1
  · rfl
  · rfl

/-- Settles O7: the drive enable output, the demand while it is released, and the three requests. -/
theorem driveOnDriveOffAndClearFault : Obligations.DriveOnDriveOffAndClearFault := by
  refine ⟨driveEnable_iff, fun s encoder still h => ⟨_, exec_servoUpdate encoder still s, ?_⟩, fun s tag hs => ?_,
    fun s tag hs => ?_, fun s tag hs => ?_⟩
  · have htracks : (s.begun encoder still).frame.state.tracks = true := tracks_of_not_driveEnable (x := s.frame.state) h
    obtain ⟨hframe, hdemand, hcode, -⟩ := servoStep_loop (s.begun encoder still)
    obtain ⟨hdriven, hkept⟩ := driven_of_tracking (s.begun encoder still).frame.position
      (s.begun encoder still).force.filtered htracks
    rw [hdriven] at hframe hdemand hcode
    exact ⟨(congrArg Frame.state (Eq.trans hframe hkept :) :), hdemand, hcode⟩
  · rw [exec_driveOn tag hs, handleDriveOn_eq]
    split_ifs <;> rfl
  · rw [exec_driveOff tag hs, handleDriveOff]
    cases s.frame.state <;> rfl
  · rw [exec_clearFault tag hs, handleClearFault]
    by_cases h : s.frame.state = .faulted
    · rw [if_pos h, if_neg (not_not.2 h)]
      split_ifs <;> rfl
    · rw [if_neg h, if_pos h]
      rfl

/-! ### The demand's bounds (R2, R32, R33, R36) -/

theorem roundDiv_mul (k : Int) {d : Int} (h : 0 < d) : roundDiv (k * d) d = k := by
  unfold roundDiv
  split_ifs with hk
  · rw [show 2 * (k * d) + d = d + k * (2 * d) by ring, Int.add_mul_ediv_right _ _ (by omega),
      Int.ediv_eq_zero_of_lt h.le (by omega), zero_add]
  · rw [show 2 * -(k * d) + d = d + -k * (2 * d) by ring, Int.add_mul_ediv_right _ _ (by omega),
      Int.ediv_eq_zero_of_lt h.le (by omega), zero_add, neg_neg]

/-- A quotient of at most `k` in magnitude is rounded to one. -/
theorem roundDiv_bounds {n d k : Int} (hd : 0 < d) (hlo : -(k * d) ≤ n) (hhi : n ≤ k * d) :
    -k ≤ roundDiv n d ∧ roundDiv n d ≤ k := by
  have bound (m : Int) (hm : 0 ≤ m) (hk : m ≤ k * d) : 0 ≤ (2 * m + d) / (2 * d) ∧ (2 * m + d) / (2 * d) ≤ k := by
    refine ⟨Int.ediv_nonneg (by omega) (by omega), Int.lt_add_one_iff.1 (Int.ediv_lt_of_lt_mul (by omega) ?_)⟩
    nlinarith
  unfold roundDiv
  split_ifs with hn
  · obtain ⟨h0, hk⟩ := bound n hn hhi
    omega
  · obtain ⟨h0, hk⟩ := bound (-n) (by omega) (by omega)
    omega

theorem advance_exact (sp q rate : Int) : 1000 * (advance sp q rate none).1 + (advance sp q rate none).2 = 1000 * sp + q + rate ∧
    0 ≤ (advance sp q rate none).2 ∧ (advance sp q rate none).2 < 1000 := by
  rw [advance_eq]
  dsimp only
  omega

theorem advance_remainder (sp q rate : Int) (target : Option Int) :
    0 ≤ (advance sp q rate target).2 ∧ (advance sp q rate target).2 < 1000 := by
  cases target with
  | none => exact (advance_exact sp q rate).2
  | some goal =>
    rw [advance_eq]
    dsimp only
    split_ifs <;> dsimp only <;> omega

/-- The advance never passes the target it approaches (R33). -/
theorem advance_within (sp q rate goal : Int) (hq : 0 ≤ q) (hq' : q < 1000) :
    (0 < rate → sp ≤ goal → sp ≤ (advance sp q rate (some goal)).1 ∧ (advance sp q rate (some goal)).1 ≤ goal) ∧
    (rate < 0 → goal ≤ sp → goal ≤ (advance sp q rate (some goal)).1 ∧ (advance sp q rate (some goal)).1 ≤ sp) := by
  rw [advance_eq]
  dsimp only
  split_ifs <;> dsimp only <;> omega

theorem limit_bounds {v : Int} (hv : 0 ≤ v) (x : Int) : -v ≤ limit (-v) v x ∧ limit (-v) v x ≤ v := by
  unfold limit
  split_ifs <;> omega

/-- A demand that passes the gating points away from a limit that is reached (R36). -/
theorem gated_bounds {d : FrameDefinition} (p : Int) {u : Int} (hu : -d.vmax ≤ u ∧ u ≤ d.vmax) (hv : 0 ≤ d.vmax) {w : Int}
    (hw : w = if gateOf d p u = .none then u else 0) :
    (-d.vmax ≤ w ∧ w ≤ d.vmax) ∧ (d.travelMax ≤ p → w ≤ 0) ∧ (p ≤ d.travelMin → 0 ≤ w) := by
  subst hw
  unfold gateOf
  by_cases hmax : d.travelMax ≤ p ∧ 0 < u
  · rw [if_pos hmax, if_neg (by decide)]
    exact ⟨by omega, fun _ => le_rfl, fun _ => le_rfl⟩
  · by_cases hmin : p ≤ d.travelMin ∧ u < 0
    · rw [if_neg hmax, if_pos hmin, if_neg (by decide)]
      exact ⟨by omega, fun _ => le_rfl, fun _ => le_rfl⟩
    · rw [if_neg hmax, if_neg hmin, if_pos rfl]
      exact ⟨hu, by omega, by omega⟩

/-- What the control computation leaves of the demand (R2, R36). -/
theorem control_demand (s : State) (p force eps : Int) (hv : 1 ≤ s.frame.defn.vmax) :
    let v := (s.control p force eps).1.servo
    (-s.frame.defn.vmax ≤ v.uLast ∧ v.uLast ≤ s.frame.defn.vmax) ∧ v.dac = dacCode v.uLast s.frame.defn.vmax ∧
    (s.frame.defn.travelMax ≤ p → v.uLast ≤ 0) ∧ (p ≤ s.frame.defn.travelMin → 0 ≤ v.uLast) ∧ 0 ≤ v.q ∧ v.q < 1000 := by
  by_cases h : s.frame.state.tracks = true
  · rw [control_of_tracking h]
    refine ⟨⟨?_, ?_⟩, ?_, fun _ => le_rfl, fun _ => le_rfl, le_rfl, (by decide : (0 : Int) < 1000)⟩
    · change -s.frame.defn.vmax ≤ 0
      omega
    · change 0 ≤ s.frame.defn.vmax
      omega
    · change 0 = roundDiv (0 * 32767) s.frame.defn.vmax
      exact (roundDiv_mul (d := s.frame.defn.vmax) 0 (by omega)).symm.trans (by rw [zero_mul, zero_mul])
  · unfold State.control
    rw [if_neg h]
    obtain ⟨hu, hmax, hmin⟩ := gated_bounds p (limit_bounds (v := s.frame.defn.vmax) (by omega) _) (by omega) rfl
    exact ⟨hu, rfl, hmax, hmin, advance_remainder ..⟩

/-- The demand that the steps before the point leave. -/
theorem driven_demand (s : State) (p force : Int) (hv : 1 ≤ s.frame.defn.vmax) :
    let v := (s.driven p force).servo
    (-s.frame.defn.vmax ≤ v.uLast ∧ v.uLast ≤ s.frame.defn.vmax) ∧ v.dac = dacCode v.uLast s.frame.defn.vmax ∧
    (s.frame.defn.travelMax ≤ p → v.uLast ≤ 0) ∧ (p ≤ s.frame.defn.travelMin → 0 ≤ v.uLast) ∧ 0 ≤ v.q ∧ v.q < 1000 := by
  have hdefn := (keepsLoop_strainStep s p force).defn
  have hcontrol := control_demand (s.strainStep p force).1 p force (s.strainStep p force).2 (by rwa [hdefn])
  have hkeeps : ((s.strainStep p force).1.control p force (s.strainStep p force).2).1.KeepsDemand (s.driven p force) :=
    keepsDemand_supervise _ p _
  rw [hdefn] at hcontrol
  obtain ⟨hu, hdac, hmax, hmin, hq⟩ := hcontrol
  have hsame := hkeeps.servo
  have hdemand : (s.driven p force).servo.uLast = _ := congrArg Servo.uLast hsame
  have hcode : (s.driven p force).servo.dac = _ := congrArg Servo.dac hsame
  dsimp only at hdemand hcode ⊢
  rw [hdemand, hcode]
  refine ⟨hu, hdac, hmax, hmin, ?_⟩
  rcases hkeeps.remainder with h | h <;> rw [h]
  · exact hq
  · decide

theorem dacCode_bounds {u vmax : Int} (hv : 1 ≤ vmax) (hu : -vmax ≤ u ∧ u ≤ vmax) :
    -32767 ≤ dacCode u vmax ∧ dacCode u vmax ≤ 32767 :=
  roundDiv_bounds (by omega) (by omega) (by omega)

theorem voltage_bounds {v : Servo} (h : -32767 ≤ v.dac ∧ v.dac ≤ 32767) : -10 ≤ v.voltage ∧ v.voltage ≤ 10 := by
  obtain ⟨hlo, hhi⟩ := h
  have hlo' : (-32767 : Rat) ≤ v.dac := by exact_mod_cast hlo
  have hhi' : (v.dac : Rat) ≤ 32767 := by exact_mod_cast hhi
  unfold Servo.voltage
  constructor
  · rw [le_div_iff₀ (by norm_num)]
    linarith
  · rw [div_le_iff₀ (by norm_num)]
    linarith

theorem dacCode_vmax {u vmax : Int} (hv : 1 ≤ vmax) (hu : u = vmax) : dacCode u vmax = 32767 := by
  rw [hu, dacCode, mul_comm, roundDiv_mul _ (by omega)]

theorem dacCode_neg_vmax {u vmax : Int} (hv : 1 ≤ vmax) (hu : u = -vmax) : dacCode u vmax = -32767 := by
  rw [hu, dacCode, show -vmax * 32767 = -32767 * vmax by ring, roundDiv_mul _ (by omega)]

theorem voltage_of_code {v : Servo} {code : Int} {volts : Rat} (h : v.dac = code) (hv : (code : Rat) * 10 / 32767 = volts) :
    v.voltage = volts := by
  rw [Servo.voltage, h, hv]

/-- Settles O53: the advance, and the demand after every update. -/
theorem demandStaysWithinTheDefinition : Obligations.DemandStaysWithinTheDefinition := by
  refine ⟨advance_exact, fun sp q rate goal hq hq' =>
    ⟨advance_remainder sp q rate _, advance_within sp q rate goal hq hq'⟩, ?_⟩
  intro s t encoder still hexec hcommitted hv hq hq' p
  obtain rfl : (s.begun encoder still).servoStep.transmit = t := Host.Outcome.next.inj hexec
  have hp : (s.begun encoder still).frame.position = p := if_pos hcommitted
  obtain ⟨-, hdemand, hcode, hsetpoint, hremainder⟩ := servoStep_loop (s.begun encoder still)
  rw [hp] at hdemand hcode hsetpoint hremainder
  obtain ⟨hu, hdac, hmax, hmin, hrem⟩ := driven_demand (s.begun encoder still) p (s.begun encoder still).force.filtered hv
  rw [← hcode, ← hdemand] at hdac
  rw [← hdemand] at hu hmax hmin
  rw [← hremainder] at hrem
  have hrange : -32767 ≤ (s.begun encoder still).servoStep.servo.dac ∧
      (s.begun encoder still).servoStep.servo.dac ≤ 32767 := by
    rw [hdac]
    exact dacCode_bounds hv hu
  refine ⟨hu, hrange, hdac, ⟨rfl, voltage_bounds hrange⟩, fun hfull => ?_, fun hfull => ?_, hmax, hmin, hrem, fun hstate => ?_⟩
  · exact voltage_of_code (hdac.trans (dacCode_vmax hv hfull)) (by norm_num)
  · exact voltage_of_code (hdac.trans (dacCode_neg_vmax hv hfull)) (by norm_num)
  · have htracks : (s.begun encoder still).frame.state.tracks = true := (tracks_iff s.frame.state).2 (.inr hstate)
    obtain ⟨htrack, -⟩ := driven_of_tracking p (s.begun encoder still).force.filtered htracks
    rw [htrack] at hdemand hcode hsetpoint
    exact ⟨hdemand, hcode, hsetpoint⟩

end Sys2Proof.Machine
end

section
/-! The strain source's removal (spec/05, section 5.5), the test-end arrivals, the lock and the presence input (sections 5.2
and 5.6, spec/03, section 3.7, spec/04, section 4.2). -/

namespace Sys2Proof.Machine

/-! ### Removal (R93 to R97) -/

/-- What a removal trigger does to the strain source (R93, R94). -/
theorem removalTrigger_eq {s : State} {p : Program} (hp : s.program = some p) : s.removalTrigger =
    if (s.frame.state = .testing ∨ s.frame.state = .held) ∧ s.strain.state = .following then
      { s with strain := { s.strain with
          state := .removing, pendingSwitch := some s.servo.latest.eps, removalStrain := some s.servo.latest.eps,
          switchCount := s.strain.switchCount + 1, ofTest := true, timer := some p.removalTime,
          removalTime := p.removalTime, removalBegan := s.clock } }
    else s := by
  unfold State.removalTrigger
  rw [hp]
  exact if_congr (by rw [inTest_iff]) rfl rfl

theorem exec_removalTriggerTestPoint {s : State} {p : Program} {x : Point} {rest : List Point} (hp : s.program = some p)
    (hx : s.points.removal = x :: rest) : exec .removalTriggerTestPoint s = .next (State.transmit (
      match p.removalStrain with
      | some level =>
        if level ≤ x.eps then (s.onPoints fun d => { d with removal := rest }).removalTrigger
        else s.onPoints fun d => { d with removal := rest }
      | none => s.onPoints fun d => { d with removal := rest })) := by
  change State.done (match s.points.removal with
    | [] => s
    | point :: rest =>
      match s.program.bind (·.removalStrain) with
      | some level =>
        if level ≤ point.eps then (s.onPoints fun d => { d with removal := rest }).removalTrigger
        else s.onPoints fun d => { d with removal := rest }
      | none => s.onPoints fun d => { d with removal := rest }) = _
  rw [hx, hp]
  rfl

theorem exec_neckingNotice {s : State} {p : Program} (hp : s.program = some p) : exec .neckingNotice s = .next (
    if p.removeAtNecking then (s.taken .necking).removalTrigger.transmit else (s.taken .necking).transmit) := by
  change State.done (if s.program.any (·.removeAtNecking) = true then (s.taken .necking).removalTrigger
    else s.taken .necking) = _
  rw [hp]
  change State.done (if p.removeAtNecking = true then _ else _) = _
  split_ifs <;> rfl

/-- A trigger in a state that differs from `s` only in what has been taken off the way. -/
theorem removalTrigger_of_alike {s b : State} {p : Program} (hp : s.program = some p) (hseq : b.seq = s.seq)
    (hframe : b.frame = s.frame) (hstrain : b.strain = s.strain) (hservo : b.servo = s.servo) (hclock : b.clock = s.clock) :
    b.removalTrigger =
      if (s.frame.state = .testing ∨ s.frame.state = .held) ∧ s.strain.state = .following then
        { b with strain := { s.strain with
            state := .removing, pendingSwitch := some s.servo.latest.eps, removalStrain := some s.servo.latest.eps,
            switchCount := s.strain.switchCount + 1, ofTest := true, timer := some p.removalTime,
            removalTime := p.removalTime, removalBegan := s.clock } }
      else b := by
  have hb : b.program = some p := by rw [State.program, hseq]; exact hp
  rw [removalTrigger_eq hb, hframe, hstrain, hservo, hclock]

/-- Settles O44: the triggers, the retracted input, and the removal timer's expiry. -/
theorem removalRunsFromItsTriggerToItsEnd : Obligations.RemovalRunsFromItsTriggerToItsEnd := by
  refine ⟨?_, fun s hm => ?_, ?_⟩
  · intro s p hp triggered without
    have htriggered (n : Notice) : (s.taken n).removalTrigger = triggered (without n) :=
      removalTrigger_of_alike hp rfl rfl rfl rfl rfl
    refine ⟨fun x rest hx => ?_, ?_, ?_, ?_⟩
    · rw [exec_removalTriggerTestPoint hp hx]
      refine ⟨fun level hl hle => ?_, fun h => ?_⟩
      · rw [hl]
        dsimp only
        rw [if_pos hle, removalTrigger_of_alike (b := s.onPoints _) hp rfl rfl rfl rfl rfl]
        rfl
      · cases hl : p.removalStrain with
        | none => rfl
        | some level =>
          dsimp only
          rw [if_neg (not_le.2 (h level hl))]
          rfl
    · rw [exec_neckingNotice hp, htriggered]
      rfl
    · exact congrArg (fun t => Host.Outcome.next (State.transmit t)) (htriggered .namedStage)
    · exact congrArg (fun t => Host.Outcome.next (State.transmit t)) (htriggered .watchRemoval)
  · intro seen
    change State.done (if (s.settleStrain.onInputs _).strain.state = .removing then _ else _) = _
    rw [settleStrain_of_not_mem s hm]
    have hnext : (if s.inTest = true then StrainState.derived else s.unzeroedState) =
        if s.frame.state = .testing ∨ s.frame.state = .held then .derived
        else if s.ext.state = .locked then .fitted else .absent :=
      if_congr (inTest_iff s) rfl rfl
    by_cases h : s.strain.state = .removing
    · rw [if_pos (by exact h), if_pos h, ← hnext]
      rfl
    · rw [if_neg (by exact h), if_neg h]
      rfl
  · intro s left hstate htimer r
    have hruns : s.strain.state = .removing ∧ s.strain.timer.isSome = true := ⟨hstate, by rw [htimer]; rfl⟩
    change State.done (if s.strain.state = .removing ∧ s.strain.timer.isSome = true then
      if s.classOf .extRemovalTimeout = .warning ∧ s.strain.ofTest = true then
        ((s.onStrain fun x => { x with timer := none }).raise .extRemovalTimeout
          (BitVec.ofNat 32 s.strain.removalTime)).setHold .removal
      else (s.onStrain fun x => { x with timer := none }).raise .extRemovalTimeout
        (BitVec.ofNat 32 s.strain.removalTime)
      else s) = _
    rw [if_pos hruns, classOf_extRemovalTimeout]
    cases hv : s.events.severities.extRemovalTimeout with
    | warning =>
      rw [raise_of_severity (s.onStrain _) .extRemovalTimeout _ .warning (congrArg Severity.toClass hv), if_pos rfl]
      have hr : r = (s.onStrain fun x => { x with timer := none }).record .extRemovalTimeout
          (BitVec.ofNat 32 s.strain.removalTime) .warning := by
        dsimp only [r]
        rw [hv]
        rfl
      rw [hr, if_neg (nofun : ¬Severity.warning = .testFault)]
      by_cases hof : s.strain.ofTest = true
      · rw [if_pos ⟨rfl, hof⟩, if_pos hof]
        rfl
      · rw [if_neg fun hw => hof hw.2, if_neg hof]
        rfl
    | testFault =>
      have hclass : ¬(Severity.testFault.toClass = .warning ∧ s.strain.ofTest = true) := fun hw => nomatch hw.1
      rw [if_neg hclass, raise_of_severity (s.onStrain _) .extRemovalTimeout _ .testFault (congrArg Severity.toClass hv),
        if_neg nofun]
      have hr : r = (s.onStrain fun x => { x with timer := none }).record .extRemovalTimeout
          (BitVec.ofNat 32 s.strain.removalTime) .testFault := by
        dsimp only [r]
        rw [hv]
        rfl
      rw [hr, if_pos (rfl : Severity.testFault = .testFault)]
      by_cases htest : s.frame.state = .testing ∨ s.frame.state = .held
      · rw [if_pos (by exact htest), if_pos htest]
        rfl
      · rw [if_neg (by exact htest), if_neg htest]
        rfl

/-! ### Test ends, lock and presence -/

/-- A switch by the loss of presence in FOLLOWING (R98). -/
theorem strainPresenceLost_of_following {s : State} (h : s.strain.state = .following) : s.strainPresenceLost =
    (s.onStrain fun x => { x with
      state := .derived, pendingSwitch := some s.servo.latest.eps, switchCount := x.switchCount + 1 }).raiseLost 1 := by
  rw [State.strainPresenceLost, h]

theorem exec_presenceDeasserted {s : State} (h : .receiverEntersLocked ∉ s.mail) (h' : .receiverLeavesLocked ∉ s.mail) :
    exec .presenceDeasserted s = .next (({ s with
      inputs := { s.inputs with presence := false }
      ext := { state := .inhibited, place := 0, body := [], timer := none, seqRef := none, badCount := 0,
               pendingDrop := 0, fifo := [], latest := none } } : State).strainPresenceLost).transmit := by
  have hmail : s.mail.filter (fun n => n ≠ .receiverEntersLocked ∧ n ≠ .receiverLeavesLocked) = s.mail := by
    rw [List.filter_eq_self]
    intro n hn
    have hne : n ≠ .receiverEntersLocked ∧ n ≠ .receiverLeavesLocked := ⟨fun e => h (e ▸ hn), fun e => h' (e ▸ hn)⟩
    exact decide_eq_true hne
  change State.done (State.strainPresenceLost { s with
    inputs := { s.inputs with presence := false }
    ext := s.ext.inhibit
    mail := s.mail.filter fun n => n ≠ .receiverEntersLocked ∧ n ≠ .receiverLeavesLocked }) = _
  rw [hmail]
  rfl

/-- Settles O45. -/
theorem testEndsLocksAndPresenceArrive : Obligations.TestEndsLocksAndPresenceArrive := by
  refine ⟨fun s hin => ⟨?_, ?_⟩, fun s => ⟨?_, ?_, ?_⟩, ?_⟩
  · exact congrArg (fun t => Host.Outcome.next (State.transmit t)) (if_neg (Bool.eq_false_iff.1 hin))
  · change Host.Outcome.next (s.taken .strainSourceTestEnd).strainTestEnd.transmit = _
    rw [strainTestEnd_eq]
    have hcond (x : Strain) : ((s.taken .strainSourceTestEnd).inTest = false ∧
        (x.state = .following ∨ x.state = .derived ∨ x.state = .removing)) =
        (x.state = .following ∨ x.state = .derived ∨ x.state = .removing) := by
      rw [show (s.taken .strainSourceTestEnd).inTest = false from hin]
      simp
    simp only [hcond]
    rfl
  · change State.done (if s.strain.state = .absent then (s.taken .receiverEntersLocked).onStrain _ else _) = _
    by_cases h : s.strain.state = .absent
    · rw [if_pos h, if_pos h]
      rfl
    · rw [if_neg h, if_neg h]
      rfl
  · change State.done (if s.strain.state = .fitted then (s.taken .receiverLeavesLocked).onStrain _ else _) = _
    by_cases h : s.strain.state = .fitted
    · rw [if_pos h, if_pos h]
      rfl
    · rw [if_neg h, if_neg h]
      rfl
  · change State.done (if s.ext.state = .inhibited then _ else _) = _
    by_cases h : s.ext.state = .inhibited
    · rw [if_pos h, if_pos h]
      rfl
    · rw [if_neg h, if_neg h]
      rfl
  · intro s hm hm' b
    rw [exec_presenceDeasserted hm hm']
    refine ⟨fun h => ?_, fun h => ?_, ?_⟩
    · have hstays : b.strainPresenceLost = b := by
        rcases h with h | h | h <;> rw [State.strainPresenceLost, show b.strain.state = _ from h]
      exact congrArg (fun t => Host.Outcome.next (State.transmit t)) hstays
    · have hdropped : b.strainPresenceLost =
          b.onStrain fun x => { x with state := .absent, zero := none, gauge := none } := by
        rcases h with h | h <;> rw [State.strainPresenceLost, show b.strain.state = _ from h]
      exact congrArg (fun t => Host.Outcome.next (State.transmit t)) hdropped
    · intro h lost
      have hlost : b.strainPresenceLost = lost.raiseLost 1 := strainPresenceLost_of_following (s := b) h
      refine ⟨fun hv => ?_, fun hv hin => ?_⟩
      · rw [show _ = lost.raiseLost 1 from hlost, raiseLost_of_warning (s := lost) 1 hv,
          show lost.program = s.program from rfl]
        split_ifs <;> rfl
      · exact congrArg (fun t => Host.Outcome.next (State.transmit t))
          (hlost.trans (raiseLost_of_testFault (s := lost) 1 hv hin))

end Sys2Proof.Machine
end

section
/-! The extensometer receiver's bytes (spec/04, sections 4.1 to 4.5). -/

namespace Sys2Proof.Machine

/-! ### The body of a frame (R71) -/

theorem toNat_append_eq {n m : Nat} (x : BitVec n) (y : BitVec m) : (x ++ y).toNat = x.toNat * 2 ^ m + y.toNat := by
  rw [BitVec.toNat_append, ← Nat.shiftLeft_add_eq_or_of_lt y.isLt, Nat.shiftLeft_eq]

theorem checkGood_iff (e0 e1 e2 status check : Byte) : checkGood [e0, e1, e2, status, check] = true ↔
    (e0.toNat + e1.toNat + e2.toNat + status.toNat + check.toNat) % 256 = 0 := by
  have hsum : checkGood [e0, e1, e2, status, check] = decide (0 + e0 + e1 + e2 + status + check = (0 : Byte)) := rfl
  rw [hsum, decide_eq_true_iff]
  bv_omega

theorem elongationOf_eq (e0 e1 e2 status check : Byte) : elongationOf [e0, e1, e2, status, check] =
    if ((e0.toNat : Int) + 256 * e1.toNat + 65536 * e2.toNat) < 8388608 then
      (e0.toNat : Int) + 256 * e1.toNat + 65536 * e2.toNat
    else (e0.toNat : Int) + 256 * e1.toNat + 65536 * e2.toNat - 16777216 := by
  change (e2 ++ (e1 ++ e0)).toInt = _
  rw [BitVec.toInt_eq_toNat_cond, toNat_append_eq, toNat_append_eq]
  split_ifs <;> omega

theorem sequenceOf_toNat (e0 e1 e2 status check : Byte) :
    (sequenceOf [e0, e1, e2, status, check]).toNat = status.toNat % 16 :=
  BitVec.extractLsb'_toNat ..

theorem overtravelOf_eq (e0 e1 e2 status check : Byte) :
    overtravelOf [e0, e1, e2, status, check] = decide (status.toNat / 16 % 2 = 1) :=
  Nat.testBit_eq_decide_div_mod_eq

/-! ### A sample offered (R80, R81) -/

theorem offer_eq (r : Receiver) (x : Sample) : r.offer x =
    if r.fifo.length < 4 then { r with fifo := r.fifo ++ [x], pendingDrop := 0, latest := some x }
    else { r with pendingDrop := min 255 (r.pendingDrop + (1 + x.lost)), latest := some x } :=
  rfl

/-- A good frame's sample, with the frames lost before it. -/
theorem deliver_of_good (r : Receiver) {body : List Byte} (h : checkGood body = true) {lost : Nat}
    (hlost : lost = min 255 (inferredLoss r.seqRef (sequenceOf body) + r.pendingDrop)) : r.deliver body =
      ({ r with seqRef := some (sequenceOf body) } : Receiver).offer
        { elongation := elongationOf body, checkBad := false, overtravel := overtravelOf body, gap := decide (0 < lost),
          lost := lost } := by
  subst hlost
  rw [Receiver.deliver, Receiver.sampleOf, h]
  rfl

/-- A bad frame's sample carries the pending drops alone. -/
theorem sampleOf_of_bad (r : Receiver) {body : List Byte} (h : checkGood body = false) {lost : Nat}
    (hlost : lost = min 255 r.pendingDrop) : r.sampleOf body =
      { elongation := elongationOf body, checkBad := true, overtravel := overtravelOf body, gap := decide (0 < lost),
        lost := lost } := by
  subst hlost
  rw [Receiver.sampleOf, h]
  simp [saturate]

/-- An occurrence does not see the receiver. -/
theorem record_onExt (s : State) (g : Receiver → Receiver) (k : EventKind) (d : Word32) (c : EventClass) :
    (s.onExt g).record k d c = (s.record k d c).onExt g := by
  rw [record_eq, record_eq]
  simp only [onExt_events]
  split
  · rfl
  · split_ifs <;> rfl

/-! ### A byte in each state (R73 to R78) -/

theorem exec_extByte (s : State) (b : Byte) : exec (.extByte b) s = .next (match s.ext.state with
    | .inhibited => s
    | .hunt => s.onExt (·.huntByte b)
    | .syncA =>
      if b = 0x4E then s.onExt fun r => { r with state := .first, place := 3, body := [], timer := some 2 }
      else s.onExt fun r => r.hunt.huntByte b
    | .first => s.onExt (·.firstByte b)
    | .confirm => s.confirmByte b
    | .locked => s.lockedByte b).transmit :=
  rfl

section
variable {s : State} {b : Byte}

theorem firstByte_of_whole {r : Receiver} (h : r.place = 7) : r.firstByte b =
    if checkGood (r.body ++ [b]) = true then
      { (r.collect b).nextFrame .confirm with seqRef := some (sequenceOf (r.body ++ [b])) }
    else (r.collect b).hunt :=
  if_neg (by omega)

/-- A sync place of CONFIRM or LOCKED. -/
theorem syncAt_of_sync {place : Nat} {sync : Byte} (h : place = 1 ∧ sync = 0xB5 ∨ place = 2 ∧ sync = 0x4E) :
    syncAt place = some sync := by
  rcases h with ⟨rfl, rfl⟩ | ⟨rfl, rfl⟩ <;> rfl

theorem syncAt_of_body {place : Nat} (h : 3 ≤ place) : syncAt place = none := by
  match place with
  | 0 | 1 | 2 => omega
  | n + 3 => rfl

theorem confirmByte_of_sync {sync : Byte} (h : syncAt s.ext.place = some sync) : s.confirmByte b =
    if b = sync then s.onExt (·.syncTaken) else s.onExt fun r => ({ r.hunt with seqRef := none }).huntByte b := by
  unfold State.confirmByte
  dsimp only
  rw [h]

theorem lockedByte_of_sync {sync : Byte} (h : syncAt s.ext.place = some sync) : s.lockedByte b =
    if b = sync then s.onExt (·.syncTaken) else s.slip b := by
  unfold State.lockedByte
  dsimp only
  rw [h]

theorem confirmByte_of_part (h : 3 ≤ s.ext.place) (h' : s.ext.place < 7) :
    s.confirmByte b = s.onExt fun r => r.collect b := by
  unfold State.confirmByte
  dsimp only
  rw [syncAt_of_body h]
  exact if_pos h'

theorem lockedByte_of_part (h : 3 ≤ s.ext.place) (h' : s.ext.place < 7) :
    s.lockedByte b = s.onExt fun r => r.collect b := by
  unfold State.lockedByte
  dsimp only
  rw [syncAt_of_body h]
  exact if_pos h'

theorem confirmByte_of_whole (h : s.ext.place = 7) : s.confirmByte b =
    if checkGood (s.ext.body ++ [b]) = true then
      ((s.onExt fun r => ((r.collect b).nextFrame .locked).deliver (s.ext.body ++ [b])).onExt fun x =>
        { x with badCount := 0 }).send .receiverEntersLocked
    else s.onExt fun r => { (r.collect b).hunt with seqRef := none } := by
  unfold State.confirmByte
  dsimp only
  rw [syncAt_of_body (by omega)]
  exact if_neg (by omega)

theorem lockedByte_of_whole (h : s.ext.place = 7) : s.lockedByte b =
    if checkGood (s.ext.body ++ [b]) = true then
      s.onExt fun r => ({ (r.collect b).nextFrame .locked with badCount := 0 }).deliver (s.ext.body ++ [b])
    else s.badFrame (s.ext.collect b) := by
  unfold State.lockedByte
  dsimp only
  rw [syncAt_of_body (by omega)]
  exact if_neg (by omega)

/-- A bad frame in LOCKED (R78). -/
theorem badFrame_eq (r : Receiver) : s.badFrame r =
    if 3 ≤ r.badCount + 1 then
      ((s.record .extCheck (BitVec.ofNat 32 (r.badCount + 1)) .warning).onExt fun _ =>
        (({ r.nextFrame .locked with badCount := r.badCount + 1 } : Receiver).offer (r.sampleOf r.body)).hunt).send
          .receiverLeavesLocked
    else (s.record .extCheck (BitVec.ofNat 32 (r.badCount + 1)) .warning).onExt fun _ =>
      ({ r.nextFrame .locked with badCount := r.badCount + 1 } : Receiver).offer (r.sampleOf r.body) := by
  unfold State.badFrame
  dsimp only
  rw [raise_extCheck, record_onExt]
  rfl

end

theorem exec_extByteTimerExpiry (s : State) : exec .extByteTimerExpiry s = .next (match s.ext.state with
    | .inhibited | .hunt => s
    | .syncA | .first | .confirm => s.onExt fun r => { r.hunt with seqRef := none }
    | .locked => (s.onExt (·.hunt)).send .receiverLeavesLocked).transmit :=
  rfl

/-- Settles O46: the body, a byte in each state and place, the byte timer. -/
theorem receiverStatesTakeBytes : Obligations.ReceiverStatesTakeBytes := by
  refine ⟨fun e0 e1 e2 status check => ⟨checkGood_iff .., elongationOf_eq .., sequenceOf_toNat .., overtravelOf_eq ..⟩, ?_⟩
  intro s b hunt again taken start put is body good
  have hput (x : Sample) (r : Receiver) (hf : r.fifo = s.ext.fifo) (hd : r.pendingDrop = s.ext.pendingDrop) :
      r.offer x = put x r := by
    dsimp only [put]
    rw [offer_eq, hf, hd]
  have hunlocked (x : Sample) (r : Receiver) : { put x r with badCount := 0 } = put x { r with badCount := 0 } := by
    dsimp only [put]
    split_ifs <;> rfl
  refine ⟨fun h => ?_, fun h => ?_, fun h => ?_, fun h hp => ?_, fun h hp => ?_, fun sync hsync => ⟨fun hb h => ?_,
    fun hb h => ?_, ?_⟩, fun h hp hp' => ?_, ?_, fun h hp hbad => ?_, ?_, fun h => ?_, fun h => ?_, fun h => ?_⟩
  · change exec (.extByte b) s = .next s.transmit
    rw [exec_extByte, h]
  · change exec (.extByte b) s = .next (s.onExt fun _ => again s.ext).transmit
    rw [exec_extByte, h]
    rfl
  · change exec (.extByte b) s = .next (s.onExt fun _ =>
      if b = 0x4E then { s.ext with state := .first, place := 3, body := [], timer := some 2 } else again (hunt s.ext)).transmit
    rw [exec_extByte, h]
    dsimp only
    split_ifs <;> rfl
  · have htaken : s.ext.firstByte b = taken := if_pos hp
    change exec (.extByte b) s = .next (s.onExt fun _ => taken).transmit
    rw [exec_extByte, h, ← htaken]
    rfl
  · have hchecked := firstByte_of_whole (b := b) hp
    change exec (.extByte b) s = .next (s.onExt fun _ =>
      if checkGood (s.ext.body ++ [b]) = true then { start .confirm s.ext with seqRef := some (sequenceOf body) }
      else hunt s.ext).transmit
    rw [exec_extByte, h]
    exact congrArg (fun r => Host.Outcome.next (s.onExt fun _ => r).transmit) hchecked
  · change exec (.extByte b) s = _
    rcases h with h | h
    · rw [exec_extByte, h, confirmByte_of_sync (syncAt_of_sync hsync), if_pos hb]
      rfl
    · rw [exec_extByte, h, lockedByte_of_sync (syncAt_of_sync hsync), if_pos hb]
      rfl
  · change exec (.extByte b) s = _
    rw [exec_extByte, h, confirmByte_of_sync (syncAt_of_sync hsync), if_neg hb]
    rfl
  · intro hb h told
    have hext : told.ext = s.ext := record_ext ..
    have hmail : told.mail = s.mail := record_mail ..
    rw [exec_extByte, h, lockedByte_of_sync (syncAt_of_sync hsync), if_neg hb]
    change Host.Outcome.next (State.transmit { told with
      ext := told.ext.hunt.huntByte b, mail := told.mail ++ [.receiverLeavesLocked] }) = _
    rw [hext, hmail]
    rfl
  · change exec (.extByte b) s = _
    rcases h with h | h
    · rw [exec_extByte, h, confirmByte_of_part hp hp']
      rfl
    · rw [exec_extByte, h, lockedByte_of_part hp hp']
      rfl
  · intro h hp hg loss lost x
    have hdeliver (r : Receiver) (hr : r.seqRef = s.ext.seqRef) (hf : r.fifo = s.ext.fifo)
        (hd : r.pendingDrop = s.ext.pendingDrop) :
        r.deliver body = put x ({ r with seqRef := some (sequenceOf body) } : Receiver) :=
      (deliver_of_good r hg (by rw [hr, hd] <;> rfl)).trans (hput x _ hf hd)
    rcases h with h | h
    · rw [exec_extByte, h, confirmByte_of_whole hp, if_pos hg, if_pos rfl]
      change Host.Outcome.next (State.transmit { s with
        ext := { ((s.ext.collect b).nextFrame .locked).deliver body with badCount := 0 }
        mail := s.mail ++ [.receiverEntersLocked] }) = _
      rw [hdeliver ((s.ext.collect b).nextFrame .locked) rfl rfl rfl, hunlocked]
      rfl
    · rw [exec_extByte, h, lockedByte_of_whole hp, if_pos hg,
        if_neg (by decide : ¬ReceiverState.locked = .confirm)]
      change Host.Outcome.next (State.transmit { s with
        ext := ({ (s.ext.collect b).nextFrame .locked with badCount := 0 } : Receiver).deliver body }) = _
      rw [hdeliver { (s.ext.collect b).nextFrame .locked with badCount := 0 } rfl rfl rfl]
      rfl
  · change exec (.extByte b) s = _
    rw [exec_extByte, h, confirmByte_of_whole hp, if_neg hbad]
    rfl
  · intro h hp hbad lost x told offered
    have hx : (s.ext.collect b).sampleOf (s.ext.collect b).body = x :=
      sampleOf_of_bad (s.ext.collect b) (Bool.eq_false_iff.2 hbad) rfl
    have hoffered : ({ (s.ext.collect b).nextFrame .locked with badCount := (s.ext.collect b).badCount + 1 } :
        Receiver).offer x = offered :=
      hput _ _ rfl rfl
    have hframe : s.badFrame (s.ext.collect b) = if 3 ≤ s.ext.badCount + 1 then
        (told.onExt fun _ => hunt offered).send .receiverLeavesLocked else told.onExt fun _ => offered := by
      rw [badFrame_eq, hx, hoffered]
      rfl
    have hmail : told.mail = s.mail := record_mail ..
    rw [exec_extByte, h, lockedByte_of_whole hp, if_neg hbad, hframe, ← hmail]
    by_cases hthird : 3 ≤ s.ext.badCount + 1
    · rw [if_pos hthird, if_pos hthird]
      rfl
    · rw [if_neg hthird, if_neg hthird]
      rfl
  · rcases h with h | h <;> rw [exec_extByteTimerExpiry, h]
  · rcases h with h | h | h <;> rw [exec_extByteTimerExpiry, h] <;> rfl
  · rw [exec_extByteTimerExpiry, h]
    rfl

end Sys2Proof.Machine
end

section
/-! A conversion of the force channel (spec/03). -/

namespace Sys2Proof.Machine

/-! ### Linearisation and rounding (R54) -/

/-- The segment that holds a raw value, the first and the last extended. -/
theorem linearise_of_segment (points : List CalPoint) (raw : Int) (i : Nat) {a b : CalPoint}
    (hrise : points.Pairwise fun x y => x.raw < y.raw) (ha : points[i]? = some a) (hb : points[i + 1]? = some b)
    (hlow : i = 0 ∨ a.raw ≤ raw) (hhigh : i + 2 = points.length ∨ raw < b.raw) :
    linearise points raw = interpolate a b raw := by
  induction points generalizing i with
  | nil => cases ha
  | cons x rest ih =>
    match rest, i with
    | [], 0 => cases hb
    | [], _ + 1 => cases ha
    | [y], 0 =>
      cases ha
      cases hb
      rfl
    | [y], _ + 1 => cases hb
    | y :: z :: rest, 0 =>
      cases ha
      cases hb
      have hraw : raw < b.raw := hhigh.resolve_left (by simp)
      exact if_pos hraw
    | y :: z :: rest, j + 1 =>
      have ha' : (y :: z :: rest)[j]? = some a := ha
      have hraw : a.raw ≤ raw := hlow.resolve_left (Nat.succ_ne_zero j)
      have hya : y.raw ≤ a.raw := by
        rcases List.mem_cons.1 (List.mem_of_getElem? ha') with rfl | hmem
        · exact le_rfl
        · exact ((List.pairwise_cons.1 (List.pairwise_cons.1 hrise).2).1 a hmem).le
      refine (if_neg (by omega)).trans (ih j (List.pairwise_cons.1 hrise).2 ha' hb (.inr hraw) ?_)
      exact hhigh.imp_left fun h => by simpa using h

theorem roundDiv_nearest {n d : Int} (hd : 0 < d) (hn : 0 ≤ n) :
    2 * d * roundDiv n d ≤ 2 * n + d ∧ 2 * n + d < 2 * d * (roundDiv n d + 1) := by
  rw [roundDiv, if_pos hn]
  have hlow := Int.mul_ediv_self_le (x := 2 * n + d) (k := 2 * d) (by omega)
  have hhigh := Int.lt_mul_ediv_self_add (x := 2 * n + d) (k := 2 * d) (by omega)
  constructor
  · exact hlow
  · rw [mul_add, mul_one]
    exact hhigh

theorem roundDiv_neg {n d : Int} (hd : 0 < d) : roundDiv (-n) d = -roundDiv n d := by
  rcases lt_trichotomy n 0 with h | rfl | h
  · rw [roundDiv, roundDiv, if_pos (by omega), if_neg (by omega), neg_neg]
  · have hzero : roundDiv 0 d = 0 := by
      have := roundDiv_mul 0 hd
      rwa [zero_mul] at this
    rw [neg_zero, hzero, neg_zero]
  · rw [roundDiv, roundDiv, if_neg (by omega), if_pos h.le, neg_neg]

/-! ### Occurrences beside the force channel -/

section
variable {s : State} {g : Force → Force}

theorem record_onForce (k : EventKind) (d : Word32) (c : EventClass) :
    (s.onForce g).record k d c = (s.record k d c).onForce g := by
  rw [record_eq, record_eq]
  simp only [onForce_events]
  split
  · rfl
  · split_ifs <;> rfl

/-- The result of a test takes of the force channel only its break capture. -/
theorem endTest_onForce (hg : (g s.force).capture = s.force.capture) (o : TestOutcome) (n : Nat) :
    (s.onForce g).endTest o n = (s.endTest o n).onForce g := by
  have hresult : (s.onForce g).closeResult o n = (s.closeResult o n).onForce g := by
    unfold State.closeResult State.resultOf
    simp only [State.onForce, State.onEval, State.onRecs, hg]
  unfold State.endTest
  simp only [hresult, record_onForce, onForce_recs]
  generalize State.record _ .resultReady _ _ = t
  rfl

theorem frameFault_onForce (hg : (g s.force).capture = s.force.capture) (k : EventKind) (d : Word32) :
    (s.onForce g).frameFault k d = (s.frameFault k d).onForce g := by
  have hended := endTest_onForce (s := s.onFrame (·.enterFault k d s.clock)) (g := g) hg .frameFault k.code.val
  unfold State.frameFault
  by_cases hu : s.frame.state = .undefined
  · rw [if_pos (by exact hu), if_pos hu]
  · rw [if_neg (by exact hu), if_neg hu]
    by_cases hin : s.inTest = true
    · exact (if_pos hin).trans (hended.trans (congrArg (State.onForce · g) (if_pos hin).symm))
    · have hkept : (s.frameFault k d).onForce g = (s.onFrame (·.enterFault k d s.clock)).onForce g := by
        rw [State.frameFault, if_neg hu, if_neg hin]
      rw [State.frameFault, if_neg hu] at hkept
      exact (if_neg hin).trans hkept.symm

theorem raise_onForce (hg : (g s.force).capture = s.force.capture) (k : EventKind) (d : Word32) :
    (s.onForce g).raise k d = (s.raise k d).onForce g := by
  have hclass : (s.onForce g).classOf k = s.classOf k := by cases k <;> rfl
  have hkept (c : EventClass) : (g (s.record k d c).force).capture = (s.record k d c).force.capture := by
    rw [record_force]
    exact hg
  unfold State.raise
  rw [hclass, record_onForce]
  cases s.classOf k with
  | info => rfl
  | warning => rfl
  | testFault =>
    by_cases hin : (s.record k d .testFault).inTest = true
    · exact (if_pos hin).trans ((endTest_onForce (hkept _) ..).trans (congrArg (State.onForce · g) (if_pos hin).symm))
    · exact (if_neg hin).trans (congrArg (State.onForce · g) (if_neg hin).symm)
  | frameFault => exact frameFault_onForce (hkept _) k d

end

/-! ### The stages of a conversion -/

/-- The force channel of a conversion before its events: sensed, filtered and compared with the overload level. -/
def State.converted (s : State) (raw : Int) : Force :=
  let c := (s.force.sense raw s.frame.defn s.committed).filter
  { c with overload := if s.committed then beyondLevel c.filtered s.frame.defn.capacity else c.overload }

theorem converted_eq (s : State) (raw : Int) :
    s.converted raw =
      let outside : Prop := raw = -8388608 ∨ raw = 8388607
      let fLin := if outside then s.force.fLin
        else if s.frame.status = .committed then sat32 (linearise s.frame.defn.points raw) else 0
      let grown := s.force.window ++ [fLin - s.force.tare]
      let window := if s.force.filterLength < grown.length then grown.drop 1 else grown
      let mean := form32 (roundDiv (sumOf window) window.length)
      let beyond : Prop := s.frame.status = .committed ∧ s.frame.defn.capacity * 1100 < (mean.natAbs : Int)
      { s.force with raw := raw, overRange := decide outside, fLin := fLin, window := window,
                     previous := s.force.filtered, filtered := mean,
                     overload := if s.frame.status = .committed then decide beyond else s.force.overload } := by
  by_cases hout : raw = -8388608 ∨ raw = 8388607 <;> by_cases hc : s.frame.status = .committed <;>
    simp [State.converted, Force.sense, overRangeRaw, hout, hc, Force.filter, meanOf, beyondLevel, State.committed]

section
variable {s : State}

theorem checkOverRange_force (s : State) (before : Bool) : (s.checkOverRange before).force = s.force := by
  unfold State.checkOverRange
  split
  · exact raise_force ..
  · rfl

/-- FORCE_OVERRANGE ends a test at every over-range conversion; outside one it is recorded at the first of a run (R52). -/
theorem checkOverRange_eq (s : State) (before : Bool) :
    s.checkOverRange before =
      let told := s.record .forceOverrange (if s.force.raw = 8388607 then 1 else 2) .testFault
      if s.inTest = true then if s.force.overRange = true then told.endTest .testFault 24 else s
      else if s.force.overRange = true ∧ before = false then told else s := by
  unfold State.checkOverRange
  simp only [raise_of_testFault _ _ _ (classOf_forceOverrange s)]
  cases hin : s.inTest <;> cases hover : s.force.overRange <;> cases before <;> rfl

theorem checkOverRange_settings (s : State) (before : Bool) :
    (s.checkOverRange before).frame.status = s.frame.status ∧ (s.checkOverRange before).frame.defn = s.frame.defn := by
  rw [checkOverRange_eq]
  dsimp only
  split_ifs <;> simp [afterTest_settings]

theorem checkOverRange_onForce {g : Force → Force} (hcap : (g s.force).capture = s.force.capture)
    (hover : (g s.force).overRange = s.force.overRange) (hraw : (g s.force).raw = s.force.raw) (before : Bool) :
    (s.onForce g).checkOverRange before = (s.checkOverRange before).onForce g := by
  have hin : (s.onForce g).inTest = s.inTest := rfl
  unfold State.checkOverRange
  simp only [hin, onForce_force, hover, hraw]
  split
  · exact raise_onForce hcap ..
  · rfl

/-- OVERLOAD is raised beyond the level, unless it is known in a frame that is FAULTED or UNDEFINED (R60). -/
def State.tellOverload (s : State) (known beyond : Bool) : State :=
  if beyond = true ∧ (known = false ∨ (s.frame.state ≠ .faulted ∧ s.frame.state ≠ .undefined)) then
    s.raise .overload (signed32 (newtons s.force.filtered))
  else s

theorem checkOverload_eq (s : State) :
    s.checkOverload =
      (s.onForce fun c => { c with overload := if s.committed then beyondLevel c.filtered s.frame.defn.capacity else c.overload
        }).tellOverload s.force.overload (s.committed && beyondLevel s.force.filtered s.frame.defn.capacity) := by
  unfold State.checkOverload State.tellOverload
  cases hc : s.committed with
  | true => rfl
  | false => simp [State.onForce]

theorem sense_overload (c : Force) (raw : Int) (d : FrameDefinition) (committed : Bool) :
    (c.sense raw d committed).overload = c.overload := by
  unfold Force.sense
  split <;> rfl

/-- A conversion's chain, with the events told of the force channel it leaves. -/
theorem exec_conversion (raw : BitVec 24) (s : State) :
    exec (.conversion raw) s =
      .next ((((s.onForce fun _ => s.converted raw.toInt).checkOverRange s.force.overRange).tellOverload s.force.overload
        (s.committed && beyondLevel (s.converted raw.toInt).filtered s.frame.defn.capacity)).checkForceLimit.checkBreak
          |>.transmit) := by
  let u := s.onForce (·.sense raw.toInt s.frame.defn s.committed)
  have hforce : (u.checkOverRange s.force.overRange).force = u.force := checkOverRange_force ..
  obtain ⟨hstatus, hdefn⟩ := checkOverRange_settings u s.force.overRange
  have hcommitted : ((u.checkOverRange s.force.overRange).onForce (·.filter)).committed = s.committed := by
    rw [State.committed, State.committed]
    exact congrArg (fun x => decide (x = DefinitionStatus.committed)) hstatus
  have hcap : (s.converted raw.toInt).capture = u.force.capture := rfl
  have hmoved : (s.onForce fun _ => s.converted raw.toInt).checkOverRange s.force.overRange =
      (u.checkOverRange s.force.overRange).onForce fun _ => s.converted raw.toInt :=
    checkOverRange_onForce (s := u) (g := fun _ => s.converted raw.toInt) hcap rfl rfl s.force.overRange
  change ((((u.checkOverRange s.force.overRange).onForce (·.filter)).checkOverload).checkForceLimit.checkBreak).done = _
  rw [checkOverload_eq, hcommitted, hmoved]
  simp only [onForce_force, onForce_frame, hforce, hdefn]
  have hknown : u.force.filter.overload = s.force.overload := sense_overload ..
  simp only [State.onForce, hforce, hknown]
  rw [← hknown]
  rfl

theorem checkForceLimit_of_not_inTest (h : s.inTest = false) : s.checkForceLimit = s := by
  unfold State.checkForceLimit
  rw [h]

theorem checkBreak_of_not_inTest (h : s.inTest = false) : s.checkBreak = s := by
  unfold State.checkBreak
  rw [h]

/-- The program force limit, while a test is in progress (R61). -/
theorem checkForceLimit_of_program {p : Program} (h : s.inTest = true) (hp : s.program = some p) :
    s.checkForceLimit =
      if p.forceLimit * 1000 ≤ s.force.filtered then
        (s.record .forceLimit (signed32 (newtons s.force.filtered)) .testFault).endTest .testFault 25
      else s := by
  unfold State.checkForceLimit
  simp only [h, hp, raise_of_testFault _ _ _ (classOf_forceLimit s), if_true]
  rfl

/-- The peak, the arming and the break of a conversion while a test is in progress (R62 to R65). -/
theorem checkBreak_of_program {p : Program} (h : s.inTest = true) (hp : s.program = some p) :
    s.checkBreak =
      let raised := s.onForce (·.raisePeak p.breakMin)
      if raised.force.armed = true ∧ raised.force.capture = none then
        match raised.force.breakCondition p.breakPct p.suddenPct with
        | some condition =>
          (raised.onForce fun c => { c with capture := some (raised.captureOf condition), breakFlag := true }).record
            .breakDetected (signed32 (newtons s.force.previous)) .info
        | none => raised
      else raised := by
  unfold State.checkBreak
  rw [h, hp]
  rfl

theorem raise_overload_inTest (s : State) (d : Word32) : (s.raise .overload d).inTest = false := by
  rw [raise_of_fault_eq s _ _ (classOf_overload s)]
  split_ifs with hu hin
  · rw [record_inTest, State.inTest, hu]
    rfl
  · rw [State.inTest, endTest_frame]
    rfl
  · rfl

theorem tellOverload_inTest (h : s.inTest = false) (known beyond : Bool) :
    (s.tellOverload known beyond).inTest = false := by
  unfold State.tellOverload
  split_ifs
  · exact raise_overload_inTest ..
  · exact h

/-- What a conversion does once the force channel holds its values. -/
def State.judged (s : State) (before known beyond : Bool) : State :=
  ((s.checkOverRange before).tellOverload known beyond).checkForceLimit.checkBreak

theorem judged_of_not_inTest (h : s.inTest = false) (before known beyond : Bool) :
    s.judged before known beyond =
      let told := if s.force.overRange = true ∧ before = false then
        s.record .forceOverrange (if s.force.raw = 8388607 then 1 else 2) .testFault else s
      if beyond = true ∧ (known = false ∨ s.frame.state ≠ .faulted ∧ s.frame.state ≠ .undefined) then
        told.raise .overload (signed32 (newtons s.force.filtered)) else told := by
  have htold := checkOverRange_eq s before
  rw [h] at htold
  simp only [Bool.false_eq_true, if_false] at htold
  have hframe : (s.checkOverRange before).frame = s.frame := by
    rw [htold]
    split
    · exact record_frame ..
    · rfl
  have hin : (s.checkOverRange before).inTest = false := by
    rw [State.inTest, hframe]
    exact h
  rw [State.judged, checkForceLimit_of_not_inTest (tellOverload_inTest hin ..),
    checkBreak_of_not_inTest (tellOverload_inTest hin ..), State.tellOverload, hframe, checkOverRange_force, htold]

theorem judged_of_overRange (h : s.inTest = true) (hover : s.force.overRange = true) (before known beyond : Bool) :
    s.judged before known beyond =
      let ended := (s.record .forceOverrange (if s.force.raw = 8388607 then 1 else 2) .testFault).endTest .testFault 24
      if beyond = true then ended.raise .overload (signed32 (newtons s.force.filtered)) else ended := by
  have hended := checkOverRange_eq s before
  rw [h, hover] at hended
  simp only [if_true] at hended
  have hstate : (s.checkOverRange before).frame.state = .ready := by
    rw [hended, endTest_frame]
    rfl
  have hin : (s.checkOverRange before).inTest = false := by
    rw [State.inTest, hstate]
    rfl
  rw [State.judged, checkForceLimit_of_not_inTest (tellOverload_inTest hin ..),
    checkBreak_of_not_inTest (tellOverload_inTest hin ..), State.tellOverload, hstate, checkOverRange_force, hended]
  simp

theorem checkOverRange_of_range (h : s.force.overRange = false) (before : Bool) : s.checkOverRange before = s := by
  unfold State.checkOverRange
  simp [h]

theorem judged_of_beyond (h : s.inTest = true) (hover : s.force.overRange = false) (before known : Bool) :
    s.judged before known true = s.raise .overload (signed32 (newtons s.force.filtered)) := by
  have htold : s.tellOverload known true = s.raise .overload (signed32 (newtons s.force.filtered)) := by
    rcases (inTest_iff s).1 h with hs | hs <;> exact if_pos ⟨rfl, .inr (by rw [hs]; decide)⟩
  rw [State.judged, checkOverRange_of_range hover, htold, checkForceLimit_of_not_inTest (raise_overload_inTest ..),
    checkBreak_of_not_inTest (raise_overload_inTest ..)]

theorem judged_of_quiet (hover : s.force.overRange = false) (before known : Bool) :
    s.judged before known false = s.checkForceLimit.checkBreak := by
  rw [State.judged, checkOverRange_of_range hover, State.tellOverload, if_neg (by simp)]

theorem judged_of_forceLimit {p : Program} (h : s.inTest = true) (hp : s.program = some p) (hover : s.force.overRange = false)
    (hlimit : p.forceLimit * 1000 ≤ s.force.filtered) (before known : Bool) :
    s.judged before known false =
      (s.record .forceLimit (signed32 (newtons s.force.filtered)) .testFault).endTest .testFault 25 := by
  rw [judged_of_quiet hover, checkForceLimit_of_program h hp, if_pos hlimit]
  refine checkBreak_of_not_inTest ?_
  rw [State.inTest, endTest_frame]
  rfl

theorem judged_below_forceLimit {p : Program} (h : s.inTest = true) (hp : s.program = some p)
    (hover : s.force.overRange = false) (hlimit : s.force.filtered < p.forceLimit * 1000) (before known : Bool) :
    s.judged before known false = s.checkBreak := by
  rw [judged_of_quiet hover, checkForceLimit_of_program h hp, if_neg (by omega)]

end

/-- Settles O47: the conversion's chain, outside and in a test. -/
theorem conversionFiltersAndDetectsTheBreak : Obligations.ConversionFiltersAndDetectsTheBreak := by
  refine ⟨fun points raw i a b => linearise_of_segment points raw i, fun x lo hi => form64_of_fits ⟨lo, hi⟩,
    fun n d hd => ⟨roundDiv_nearest hd, roundDiv_neg hd⟩, ?_⟩
  intro s raw outside fLin grown window mean beyond quiet sensed end1 overloaded
  have hquiet : s.converted raw.toInt = quiet := converted_eq s raw.toInt
  have hbeyond : (s.committed && beyondLevel quiet.filtered s.frame.defn.capacity) = decide beyond := by
    rw [State.committed, beyondLevel, Bool.decide_and]
  have hexec : exec (.conversion raw) s =
      .next (sensed.judged s.force.overRange s.force.overload (decide beyond)).transmit := by
    rw [exec_conversion, hquiet, hbeyond]
    rfl
  have hover (h : ¬ outside) : sensed.force.overRange = false := decide_eq_false h
  rw [hexec]
  refine ⟨?_, ?_, ?_, ?_, ?_⟩
  · intro hin told
    rw [judged_of_not_inTest (s := sensed) hin]
    have hover' : (sensed.force.overRange = true) = outside := decide_eq_true_eq
    simp only [hover', decide_eq_true_eq]
    rw [apply_ite State.transmit]
    rfl
  · intro hin hout ended
    rw [judged_of_overRange (s := sensed) hin (decide_eq_true hout)]
    simp only [decide_eq_true_eq]
    rw [apply_ite State.transmit]
    rfl
  · intro hin hout hb
    rw [decide_eq_true hb, judged_of_beyond (s := sensed) hin (hover hout)]
    rfl
  · intro p hin hp hout hb hlimit
    rw [decide_eq_false hb, judged_of_forceLimit (s := sensed) hin hp (hover hout) hlimit]
    rfl
  · intro p hin hp hout hb hlimit peak armed fraction sudden raised
    rw [decide_eq_false hb, judged_below_forceLimit (s := sensed) hin hp (hover hout) hlimit,
      checkBreak_of_program (s := sensed) hin hp]
    have hraised : sensed.onForce (·.raisePeak p.breakMin) = { s with force := raised } := rfl
    have hcondition : raised.breakCondition p.breakPct p.suddenPct =
      if fraction then some .fraction else if sudden then some .sudden else none := rfl
    dsimp only
    rw [hraised]
    refine ⟨fun hnone => ?_, fun t ht harmed hcap hcond => ?_⟩
    · refine congrArg (fun u => Host.Outcome.next (State.transmit u)) ?_
      split_ifs with hready
      · have hf : ¬ fraction := fun h => hnone ⟨hready.1, hready.2, .inl h⟩
        have hs : ¬ sudden := fun h => hnone ⟨hready.1, hready.2, .inr h⟩
        rw [hcondition, if_neg hf, if_neg hs]
      · rfl
    · have hcaught : raised.breakCondition p.breakPct p.suddenPct =
          some (if fraction then .fraction else .sudden) := by
        rw [hcondition]
        by_cases hf : fraction
        · rw [if_pos hf, if_pos hf]
        · rw [if_neg hf, if_neg hf, if_pos (hcond.resolve_left hf)]
      rw [if_pos ⟨harmed, hcap⟩, hcaught]
      simp only [State.captureOf, State.onForce, ht, Option.map_some, Option.getD_some]
      rfl

end Sys2Proof.Machine
end

section
/-! The sequencer at a test point, its notices and the end of a stage (spec/06 section 6.3). -/

namespace Sys2Proof.Machine

/-! ### The end of a stage (R113, R114, R118) -/

section
variable {s : State} {time : Word32} {cause n : Nat}

theorem stageEnd_of_ended (h : s.seq.lastEnd = some time) : s.stageEnd time cause = s := if_pos h

theorem stageAt_of_program {p : Program} (hp : s.program = some p) (n : Nat) : s.stageAt n = p.stages[n]? := by
  rw [State.stageAt, hp]
  rfl

/-- The end of the last stage ends the test (R118). -/
theorem stageEnd_of_last (h : s.seq.lastEnd ≠ some time) (hn : s.seq.stage = some n) (hlast : s.stageAt (n + 1) = none) :
    s.stageEnd time cause = (s.onSeq fun q => { q with lastEnd := some time }).endTest .completedNoBreak 0 := by
  rw [State.stageEnd, if_neg h]
  simp [hn, hlast]

theorem stageEnd_of_next (h : s.seq.lastEnd ≠ some time) (hn : s.seq.stage = some n) {g : Stage}
    (hnext : s.stageAt (n + 1) = some g) :
    s.stageEnd time cause = (s.onSeq fun q => { q with lastEnd := some time }).enterStage (n + 1) cause := by
  rw [State.stageEnd, if_neg h]
  simp [hn, hnext]

theorem pausesTimers_of_program {p : Program} (hp : s.program = some p) :
    s.pausesTimers = true ↔ p.timersInHold = .stop := by
  rw [State.pausesTimers, hp]
  simp

theorem loadedTimer_of_program {p : Program} {g : Stage} (hp : s.program = some p) (hg : p.stages[n]? = some g) :
    s.loadedTimer n = match g.time with
      | none => .stopped
      | some t => if s.frame.state = .held ∧ p.timersInHold = .stop then .paused t else .running t := by
  rw [State.loadedTimer, stageAt_of_program hp, hg]
  simp only [pausesTimers_of_program hp]
  rfl

/-- The entry of a stage by the end of the one before. -/
theorem enterStage_of_program {p : Program} (hp : s.program = some p) (hc : 1 ≤ cause) :
    s.enterStage n cause =
      let told := (s.onSeq fun q => { q with stage := some n, timeMark := false, timer := s.loadedTimer n }).record
        .stageEntered (BitVec.ofNat 32 (n + 256 * cause)) .info
      if p.removeBefore = some n then told.send .namedStage else told := by
  have hc' : cause ≠ 0 := by omega
  rw [State.enterStage, hp]
  simp only [raise_stageEntered, hc', ne_eq, not_false_eq_true, true_and, Option.bind_some]

end

/-! ### A test point at the sequencer (R115, R116) -/

theorem exec_sequencerTestPoint_of_none {s : State} (h : s.points.sequencer = []) :
    exec .sequencerTestPoint s = .next s.transmit := by
  change execSequencerTestPoint s = _
  unfold execSequencerTestPoint
  rw [h]
  rfl

theorem exec_sequencerTestPoint {s : State} {x : Point} {rest : List Point} (h : s.points.sequencer = x :: rest) :
    exec .sequencerTestPoint s =
      .next ((s.onPoints fun d => { d with sequencer := rest }).sequencerPoint x).transmit := by
  change execSequencerTestPoint s = _
  unfold execSequencerTestPoint
  rw [h]
  rfl

section
variable {s : State} {x : Point}

theorem sequencerPoint_of_not_inTest (h : s.inTest = false) : s.sequencerPoint x = s := by
  rw [State.sequencerPoint, h]
  rfl

theorem sequencerPoint_of_break (h : s.inTest = true) (hb : s.force.breakFlag = true) :
    s.sequencerPoint x = (s.onForce fun c => { c with breakFlag := false }).endTest .completedBreak 0 := by
  rw [State.sequencerPoint, if_pos h, if_pos hb]

theorem sequencerPoint_of_held (hb : s.force.breakFlag = false) (hheld : s.frame.state = .held ∨ x.held = true) :
    s.sequencerPoint x = s := by
  have hnot : ¬ (s.frame.state = .testing ∧ x.held = false) := by
    rintro ⟨ht, hx⟩
    rcases hheld with h | h
    · rw [ht] at h
      cases h
    · rw [hx] at h
      cases h
  rw [State.sequencerPoint, hb, if_neg hnot]
  simp

/-- The end conditions are looked at in TESTING. -/
theorem sequencerPoint_of_testing (ht : s.frame.state = .testing) (hb : s.force.breakFlag = false) (hx : x.held = false)
    {n : Nat} {g : Stage} (hn : s.seq.stage = some n) (hg : s.stageAt n = some g) :
    s.sequencerPoint x =
      if s.seq.meets g g.end1 x = true then s.stageEnd x.time 1
      else if s.seq.meets g g.end2 x = true then s.stageEnd x.time 2
      else s := by
  have hcause : s.endCause x =
      if s.seq.meets g g.end1 x then some 1 else if s.seq.meets g g.end2 x then some 2 else none := by
    rw [State.endCause, State.stageInForce, hn, Option.bind_some, hg, Option.bind_some]
  rw [State.sequencerPoint, if_pos ((inTest_iff s).2 (.inl ht)), hb, if_neg Bool.false_ne_true, if_pos ⟨ht, hx⟩, hcause]
  split_ifs <;> rfl

end

/-- When an end condition is met (R116). -/
theorem meets_iff (q : Sequencer) (g : Stage) (e : EndCondition) (x : Point) :
    q.meets g e x = true ↔
      let y := match g.channel with
        | .position => x.p
        | .force => x.f
        | .strain => x.eps
      match e.kind with
      | .never => False
      | .target => 0 < g.rate ∧ e.value ≤ y ∨ g.rate < 0 ∧ y ≤ e.value
      | .forceAbove => e.value ≤ x.f
      | .forceBelow => x.f ≤ e.value
      | .strainAbove => e.value ≤ x.eps
      | .displacementAbove => e.value ≤ x.d
      | .stageTime => q.timeMark = true
      | .yieldFound => q.yieldMark = true
      | .fmaxPassed => q.fmaxMark = true := by
  obtain ⟨kind, value⟩ := e
  unfold Sequencer.meets
  cases kind with
  | target => cases g.channel <;> simp only [Point.feedback] <;> exact decide_eq_true_iff
  | _ => simp

/-- Settles O39: the end of a stage for each cause, and what a test point does at the sequencer. -/
theorem sequencerTestPointEndsTheStageOrTheTest : Obligations.SequencerTestPointEndsTheStageOrTheTest := by
  refine ⟨?_, fun s h => exec_sequencerTestPoint_of_none h, ?_⟩
  · intro s time cause n p hc hn hp b
    refine ⟨stageEnd_of_ended, fun hnew hlast => ?_, ?_⟩
    · refine stageEnd_of_last hnew hn ?_
      rw [stageAt_of_program hp]
      exact List.getElem?_eq_none hlast
    · intro g hnew hg loaded entered told
      rw [stageEnd_of_next hnew hn ((stageAt_of_program hp _).trans hg),
        enterStage_of_program (s := s.onSeq fun q => { q with lastEnd := some time }) hp hc,
        loadedTimer_of_program (s := s.onSeq fun q => { q with lastEnd := some time }) hp hg]
      rfl
  · intro s x rest hx b
    rw [exec_sequencerTestPoint hx]
    refine ⟨fun h => ?_, fun h hb => ?_, fun hb hheld => ?_, ?_⟩
    · rw [sequencerPoint_of_not_inTest (s := s.onPoints _) h]
      rfl
    · rw [sequencerPoint_of_break (s := s.onPoints _) h hb]
      rfl
    · rw [sequencerPoint_of_held (s := s.onPoints _) hb hheld]
      rfl
    · intro n g ht hb hheld hn hg y met
      have hmeets (e : EndCondition) : s.seq.meets g e x = true ↔ met e := meets_iff s.seq g e x
      rw [sequencerPoint_of_testing (s := s.onPoints _) ht hb hheld hn hg, onPoints_seq]
      refine ⟨fun h => ?_, fun h h' => ?_, fun h h' => ?_⟩
      · rw [if_pos ((hmeets _).2 h)]
        rfl
      · rw [if_neg (h ∘ (hmeets _).1), if_pos ((hmeets _).2 h')]
        rfl
      · rw [if_neg (h ∘ (hmeets _).1), if_neg (h' ∘ (hmeets _).1)]
        rfl

/-! ### Notices at the sequencer (R117, R131) -/

theorem erase_of_first {t : Word32} {before after : List Notice} (h : ∀ u, .nextStage u ∉ before) :
    (before ++ .nextStage t :: after).erase (.nextStage t) = before ++ after := by
  rw [List.erase_append_right _ (h t), List.erase_cons_head]

theorem nextStageTimes_of_none {mail : List Notice} (h : ∀ t, .nextStage t ∉ mail) : nextStageTimes mail = [] := by
  rw [nextStageTimes, List.filterMap_eq_nil_iff]
  intro m hm
  cases m with
  | nextStage t => exact absurd hm (h t)
  | _ => rfl

theorem exec_nextStage (s : State) :
    exec .nextStage s = .next (s.takeNextStage ((nextStageTimes s.mail).head?.getD s.servo.latest.time)).transmit := rfl

/-- Settles O40: the marks of the two notices, and the NEXT_STAGE action with its oldest arrival. -/
theorem noticesSetMarksAndNextStageEndsTheStage : Obligations.NoticesSetMarksAndNextStageEndsTheStage := by
  refine ⟨?_, ?_, ?_, ?_⟩
  · intro s b
    rw [← apply_ite State.transmit]
    rfl
  · intro s b
    rw [← apply_ite State.transmit]
    rfl
  · intro s time before after hmail hfirst b
    have htimes : nextStageTimes s.mail = time :: nextStageTimes after := by
      rw [hmail, nextStageTimes, List.filterMap_append]
      exact congrArg (· ++ _) (nextStageTimes_of_none hfirst)
    have htaken : s.taken (.nextStage time) = b := by
      rw [taken_eq, State.onMail, hmail, erase_of_first hfirst]
    rw [exec_nextStage, htimes, takeNextStage_eq]
    simp only [List.head?_cons, Option.getD_some, htaken]
    rw [← apply_ite State.transmit]
  · intro s hnone
    have htaken : s.taken (.nextStage s.servo.latest.time) = s := by
      rw [taken_eq, State.onMail, List.erase_of_not_mem (hnone _)]
    rw [exec_nextStage, nextStageTimes_of_none hnone, takeNextStage_eq]
    simp only [List.head?_nil, Option.getD_none, htaken]
    rw [← apply_ite State.transmit]

end Sys2Proof.Machine
end

section
/-! The watch unit at a test point (spec/07 sections 7.2 and 7.3). -/

namespace Sys2Proof.Machine

/-! ### One entry at a test point (R128, R129) -/

theorem watch_fires_iff (w : Watch) (x : Point) :
    w.fires x = true ↔ w.enabled = true ∧ w.state = .armed ∧ ∃ before, w.previous = some before ∧
      w.crosses before (x.watched w.quantity) = true := by
  rw [Watch.fires, Bool.and_eq_true, Bool.and_eq_true, decide_eq_true_iff, and_assoc]
  cases w.previous <;> simp

theorem watch_crosses_iff (w : Watch) (before value : Int) :
    w.crosses before value = true ↔ match w.direction with
      | .rising => before < w.level ∧ w.level ≤ value
      | .falling => w.level < before ∧ value ≤ w.level := by
  rw [Watch.crosses]
  cases w.direction <;> exact decide_eq_true_iff

theorem watch_rearms_iff (w : Watch) (value : Int) :
    w.rearms value = true ↔ match w.direction with
      | .rising => value ≤ w.level - w.hysteresis
      | .falling => w.level + w.hysteresis ≤ value := by
  rw [Watch.rearms]
  cases w.direction <;> exact decide_eq_true_iff

section
variable {w : Watch} {x : Point}

theorem examined_of_disabled (h : w.enabled = false) : w.examined x = w := by
  simp [Watch.examined, h]

theorem examined_of_fires (h : w.fires x = true) :
    w.examined x = { w with previous := some (x.watched w.quantity), state := .fired } := by
  simp [Watch.examined, h, ((watch_fires_iff w x).1 h).1]

theorem examined_of_comesBack (he : w.enabled = true) (hs : w.state = .fired) (hr : w.rearm = .rearm)
    (hback : w.rearms (x.watched w.quantity) = true) :
    w.examined x = { w with previous := some (x.watched w.quantity), state := .armed } := by
  simp [Watch.examined, Watch.fires, he, hs, hr, hback]

theorem examined_of_neither (he : w.enabled = true) (hf : ¬ w.fires x = true)
    (hback : ¬ (w.state = .fired ∧ w.rearm = .rearm ∧ w.rearms (x.watched w.quantity) = true)) :
    w.examined x = { w with previous := some (x.watched w.quantity) } := by
  simp [Watch.examined, he, hf, hback]

end

/-! ### The firing entries (R130 to R132) -/

/-- The action of an entry. -/
def watchActionAt (watches : Vector Watch 5) (i : Nat) : WatchAction := (watches[i]?.map (·.action)).getD .notify

/-- The firing entries are given by the ascending list of their indices. -/
theorem firings_of_indices {watches : Vector Watch 5} {x : Point} {fired : List Nat} (hup : fired.Pairwise (· < ·))
    (hmem : ∀ i, i ∈ fired ↔ ∃ h : i < 5, watches[i].fires x = true) :
    firings watches x = fired.map fun i => (i, watchActionAt watches i) := by
  let firesAt (i : Nat) : Bool := watches[i]?.any (·.fires x)
  have hfires (i : Nat) : firesAt i = true ↔ ∃ h : i < 5, watches[i].fires x = true := by
    by_cases h : i < 5 <;> simp [firesAt, h]
  have hfired : fired = [0, 1, 2, 3, 4].filter firesAt := by
    refine List.Pairwise.eq_of_mem_iff hup (List.Pairwise.filter _ (by decide)) fun i => ?_
    rw [hmem, List.mem_filter, hfires]
    refine ⟨fun ⟨h, hf⟩ => ⟨by simp; omega, h, hf⟩, fun h => h.2⟩
  rw [hfired, firings, ← List.filterMap_eq_map, List.filterMap_filter]
  refine List.filterMap_congr fun i _ => ?_
  cases hw : watches[i]? with
  | none => simp [firesAt, hw]
  | some w => simp [firesAt, hw, watchActionAt]

/-! ### The actions of a test point (R130 to R132) -/

section
variable {s : State}

theorem removalTrigger_of_not_following (h : s.strain.state ≠ .following) : s.removalTrigger = s := by
  unfold State.removalTrigger
  cases s.program <;> simp [h]

theorem removalTrigger_twice : s.removalTrigger.removalTrigger = s.removalTrigger := by
  by_cases h : s.removalTrigger.strain.state = .following
  · have hkept : s.removalTrigger = s := by
      cases hp : s.program with
      | none => rw [State.removalTrigger, hp]
      | some p =>
        rw [removalTrigger_eq hp] at h ⊢
        split_ifs at h ⊢
        rfl
    rw [hkept, hkept]
  · exact removalTrigger_of_not_following h

/-- Before an END_TEST only a REMOVE_EXT acts, and a second one has nothing left to do (R94, log 21). -/
theorem foldl_watchActionBeforeEnd (actions : List WatchAction) (s : State) :
    actions.foldl State.watchActionBeforeEnd s = if .removeExt ∈ actions then s.removalTrigger else s := by
  induction actions generalizing s with
  | nil => rfl
  | cons a rest ih =>
    rw [List.foldl_cons, ih]
    cases a with
    | removeExt =>
      rw [if_pos List.mem_cons_self]
      split_ifs
      · exact removalTrigger_twice
      · rfl
    | _ => simp [State.watchActionBeforeEnd]

theorem exec_watchTestPoint_of_none (h : s.points.watch = []) : exec .watchTestPoint s = .next s.transmit := by
  change execWatchTestPoint s = _
  unfold execWatchTestPoint
  rw [h]
  rfl

theorem exec_watchTestPoint_of_not_inTest {x : Point} {rest : List Point} (h : s.points.watch = x :: rest)
    (hin : s.inTest = false) :
    exec .watchTestPoint s = .next (s.onPoints fun d => { d with watch := rest }).transmit := by
  change execWatchTestPoint s = _
  have hin' : (s.onPoints fun d => { d with watch := rest }).inTest = false := hin
  unfold execWatchTestPoint State.watchPoint
  simp only [h, hin']
  rfl

/-- A test point in a test: every firing entry is told, and then the actions are taken. -/
theorem exec_watchTestPoint {x : Point} {rest : List Point} (h : s.points.watch = x :: rest) (hin : s.inTest = true)
    {fired : List Nat} (hfired : firings s.watches x = fired.map fun i => (i, watchActionAt s.watches i)) :
    exec .watchTestPoint s =
      let told := fired.foldl (fun r i => r.record .watchFired (BitVec.ofNat 32 i) .info)
        ({ s with points := { s.points with watch := rest }, watches := s.watches.map (·.examined x) } : State)
      let actions := fired.map (watchActionAt s.watches)
      .next (State.transmit (
        if .endTest ∈ actions then (actions.foldl State.watchActionBeforeEnd told).endTest .endedByWatch 0
        else actions.foldl (fun r a => r.watchAction x.time a) told)) := by
  have hin' : (s.onPoints fun d => { d with watch := rest }).inTest = true := hin
  have hany : ((fired.map fun i => (i, watchActionAt s.watches i)).any fun e => decide (e.2 = .endTest)) = true ↔
      .endTest ∈ fired.map (watchActionAt s.watches) := by
    simp
  change execWatchTestPoint s = _
  unfold execWatchTestPoint State.watchPoint
  simp only [h, hin', onPoints_watches, hfired, State.watchActions, State.raiseFirings, hany, List.foldl_map,
    raise_watchFired]
  rfl

end

/-- Settles O41: the entries at a test point, what a firing tells, and the actions with and without an END_TEST. -/
theorem watchTestPointFiresOnCrossings : Obligations.WatchTestPointFiresOnCrossings := by
  refine ⟨fun s h => exec_watchTestPoint_of_none h, fun s => rfl, ?_⟩
  intro s x rest hx value fires comesBack off
  have hfires (w : Watch) : w.fires x = true ↔ fires w := by
    rw [watch_fires_iff]
    simp only [watch_crosses_iff]
    rfl
  have hback (w : Watch) : (w.state = .fired ∧ w.rearm = .rearm ∧ w.rearms (x.watched w.quantity) = true) ↔
      comesBack w := by
    rw [watch_rearms_iff]
    rfl
  refine ⟨fun hin => exec_watchTestPoint_of_not_inTest hx hin, ?_⟩
  intro watches hin hwatches b
  have hexamined : s.watches.map (·.examined x) = watches := by
    refine Vector.ext fun i hi => ?_
    obtain ⟨hoff, hfire, hcome, hneither⟩ := hwatches i hi
    rw [Vector.getElem_map]
    cases he : s.watches[i].enabled with
    | false => exact (examined_of_disabled he).trans (hoff he).symm
    | true =>
      by_cases hf : fires s.watches[i]
      · exact (examined_of_fires ((hfires _).2 hf)).trans (hfire he hf).symm
      · by_cases hc : comesBack s.watches[i]
        · obtain ⟨hs, hr, hb⟩ := (hback _).2 hc
          exact (examined_of_comesBack he hs hr hb).trans (hcome he hc).symm
        · exact (examined_of_neither he (hf ∘ (hfires _).1) (hc ∘ (hback _).1)).trans (hneither he hf hc).symm
  have hexec (fired : List Nat) (hup : fired.Pairwise (· < ·))
      (hmem : ∀ i, i ∈ fired ↔ ∃ h : i < 5, fires s.watches[i]) :=
    exec_watchTestPoint hx hin (firings_of_indices hup (by simpa only [hfires] using hmem))
  simp only [hexamined] at hexec
  refine ⟨fun hnone => ?_, fun i hi hf hone => ?_, ?_⟩
  · exact hexec [] .nil fun i => by simpa using hnone i
  · intro told
    have haction : watchActionAt s.watches i = s.watches[i].action := by simp [watchActionAt, hi]
    have := hexec [i] (List.pairwise_singleton _ _) fun j => by
      rw [List.mem_singleton]
      refine ⟨?_, fun ⟨hj, hfj⟩ => ?_⟩
      · rintro rfl
        exact ⟨hi, hf⟩
      · by_contra hne
        exact hone j hj hne hfj
    simp only [List.map_cons, List.map_nil, haction, List.mem_singleton] at this
    rw [this]
    cases s.watches[i].action <;> rfl
  · intro fired hup hmem told takes act
    have htakes (a : WatchAction) (ha : a ≠ .notify) : takes a ↔ a ∈ fired.map (watchActionAt s.watches) := by
      rw [List.mem_map]
      refine exists_congr fun i => and_congr_right fun _ => ?_
      rw [watchActionAt]
      cases hw : s.watches[i]?.map (·.action) with
      | none => simpa using ha.symm
      | some a' => simp
    have hact (r : State) (i : Nat) : r.watchAction x.time (watchActionAt s.watches i) = act r i := by
      change _ = (match s.watches[i]?.map (·.action) with
        | some .hold => _
        | some .nextStage => _
        | some .removeExt => _
        | _ => r)
      rw [watchActionAt]
      cases hw : s.watches[i]?.map (·.action) with
      | none => rfl
      | some a => cases a <;> rfl
    obtain ⟨e, q, htold, -, -⟩ := foldl_record_eq fired (fun _ => .watchFired) (fun i => BitVec.ofNat 32 i) (fun _ => .info) b
    replace htold : told = { b with events := e, link := { b.link with eventQueue := q } } := htold
    have hpoint : exec .watchTestPoint s = .next (State.transmit (
        if .endTest ∈ fired.map (watchActionAt s.watches) then
          (if .removeExt ∈ fired.map (watchActionAt s.watches) then told.removalTrigger else told).endTest .endedByWatch 0
        else (fired.map (watchActionAt s.watches)).foldl (fun r a => r.watchAction x.time a) told)) := by
      rw [← foldl_watchActionBeforeEnd]
      exact hexec fired hup hmem
    rw [hpoint]
    refine ⟨fun hend => ?_, fun hend hrem => ?_, fun p hp hend hrem hfollow => ?_⟩
    · rw [if_neg (hend ∘ (htakes .endTest nofun).2), List.foldl_map]
      exact congrArg (fun r => Host.Outcome.next (State.transmit r)) (List.foldl_ext _ _ _ fun r i _ => hact r i)
    · rw [if_pos ((htakes .endTest nofun).1 hend)]
      have hsame : told.removalTrigger = told ∨ .removeExt ∉ fired.map (watchActionAt s.watches) := by
        rcases hrem with hrem | hs
        · exact .inr (hrem ∘ (htakes .removeExt nofun).2)
        · refine .inl (removalTrigger_of_not_following ?_)
          rw [htold]
          exact hs
      rcases hsame with hsame | hno
      · rw [hsame, ite_self]
      · rw [if_neg hno]
    · have hp' : told.program = some p := by
        rw [htold]
        exact hp
      have hready : (told.frame.state = .testing ∨ told.frame.state = .held) ∧ told.strain.state = .following := by
        rw [htold]
        exact ⟨(inTest_iff s).1 hin, hfollow⟩
      rw [if_pos ((htakes .endTest nofun).1 hend), if_pos ((htakes .removeExt nofun).1 hrem), removalTrigger_eq hp',
        if_pos hready]
      clear_value told
      subst htold
      rfl

end Sys2Proof.Machine
end

section
/-! The evaluation unit at a test point: energy, maximum force and the elastic fit (spec/09 sections 9.2 to 9.4). -/

namespace Sys2Proof.Machine

/-! ### What a test point changes -/

/-- Only the evaluation, the events with their frames, and the notices on their way differ. -/
def State.Evaluated (s t : State) : Prop :=
  ∃ e v l m, t = { s with eval := e, events := v, link := l, mail := m }

theorem State.Evaluated.refl (s : State) : s.Evaluated s := ⟨_, _, _, _, rfl⟩

theorem State.Evaluated.trans {s t u : State} (h : s.Evaluated t) (h' : t.Evaluated u) : s.Evaluated u := by
  obtain ⟨e, v, l, m, rfl⟩ := h
  obtain ⟨e, v, l, m, rfl⟩ := h'
  exact ⟨_, _, _, _, rfl⟩

section
variable (s : State) (p : Program) (x : Point)

theorem evaluated_onEval (g : Evaluation → Evaluation) : s.Evaluated (s.onEval g) := ⟨_, _, _, _, rfl⟩

theorem evaluated_send (n : Notice) : s.Evaluated (s.send n) := ⟨_, _, _, _, rfl⟩

theorem evaluated_transmit : s.Evaluated s.transmit := ⟨_, _, _, _, rfl⟩

theorem evaluated_record (k : EventKind) (d : Word32) (c : EventClass) : s.Evaluated (s.record k d c) := by
  rw [record_eq]
  split
  · exact ⟨_, _, _, _, rfl⟩
  · split <;> exact ⟨_, _, _, _, rfl⟩

theorem evaluated_foundYield (d : Word32) : s.Evaluated (s.foundYield d) :=
  (evaluated_record s _ _ _).trans (evaluated_send _ _)

theorem evaluated_raiseFit (n : Int) (i : Option Nat) : s.Evaluated (s.raiseFit n i) := by
  cases i with
  | none => exact evaluated_record ..
  | some c => exact (evaluated_record ..).trans (evaluated_record ..)

theorem evaluated_upperYield : s.Evaluated (s.upperYield p x) := by
  unfold State.upperYield
  split_ifs
  · dsimp only
    split
    · split_ifs
      · exact ((evaluated_onEval ..).trans (evaluated_onEval ..)).trans (evaluated_foundYield ..)
      · exact evaluated_onEval ..
    · exact evaluated_onEval ..
  · exact .refl s

theorem evaluated_offsetYield : s.Evaluated (s.offsetYield p x) := by
  unfold State.offsetYield
  split
  · split_ifs
    · exact ((evaluated_onEval ..).trans (evaluated_onEval ..)).trans (evaluated_foundYield ..)
    · exact evaluated_onEval ..
    · exact .refl s
  · exact .refl s

theorem evaluated_plateauStep : s.Evaluated (s.plateauStep p x) := by
  unfold State.plateauStep
  split_ifs
  · exact evaluated_onEval ..
  · exact .refl s

theorem evaluated_neckingStep : s.Evaluated (s.neckingStep p x) := by
  have hneck (m : Int) : s.Evaluated ((((s.onEval (·.neck)).raise .fmaxPassed (signed32 (newtons m))).send .fmaxPassed).send
      .necking) :=
    (((evaluated_onEval ..).trans (evaluated_record ..)).trans (evaluated_send ..)).trans (evaluated_send ..)
  unfold State.neckingStep
  split
  · split_ifs
    · exact hneck _
    · exact .refl s
  · split_ifs
    · exact hneck _
    · exact .refl s
  · exact .refl s

end

/-! ### Yield and necking leave energy, maximum and fit -/

/-- The evaluation without its phase, yield and plateau values. -/
def Evaluation.measured (e : Evaluation) : Evaluation :=
  { e with phase := .elastic, tracking := none, reH := none, epsReH := none, guardEnd := none, reL := none,
           plateau := .running, ae := none, rp := none, path := .continuous }

section
variable (s : State) (p : Program) (x : Point)

theorem upperYield_measured : (s.upperYield p x).eval.measured = s.eval.measured := by
  have htrack : (s.eval.track x).measured = s.eval.measured := by
    unfold Evaluation.track
    split <;> split_ifs <;> rfl
  unfold State.upperYield
  split_ifs
  · dsimp only
    split
    · split_ifs
      · rw [foundYield_eval]
        exact htrack
      · exact htrack
    · exact htrack
  · rfl

theorem offsetYield_measured : (s.offsetYield p x).eval.measured = s.eval.measured := by
  unfold State.offsetYield
  split
  · split_ifs
    · rw [foundYield_eval]
      rfl
    · rfl
    · rfl
  · rfl

theorem plateauStep_measured : (s.plateauStep p x).eval.measured = s.eval.measured := by
  have hlower : (s.eval.lowerYield x).measured = s.eval.measured := by
    unfold Evaluation.lowerYield
    split
    · split
      · split <;> rfl
      · split <;> rfl
    · rfl
  have hend (e : Evaluation) (margin : Int) : (e.endPlateau margin x).measured = e.measured := by
    unfold Evaluation.endPlateau
    split
    · split <;> rfl
    · rfl
  unfold State.plateauStep
  split
  · rw [onEval_eval, Evaluation.plateauAt]
    split
    · exact hlower
    · rw [hend, hlower]
  · rfl

theorem neckingStep_measured : (s.neckingStep p x).eval.measured = s.eval.measured := by
  unfold State.neckingStep
  split
  · split
    · simp only [send_eq, onMail_eval, raise_fmaxPassed, record_eval]
      rfl
    · rfl
  · split
    · simp only [send_eq, onMail_eval, raise_fmaxPassed, record_eval]
      rfl
    · rfl
  · rfl

/-! The events of the steps: the upper and the offset yield tell YIELD_FOUND, necking FMAX_PASSED. -/

theorem foundYield_record {k : EventKind} (h : k ≠ .yieldFound) (d : Word32) :
    (s.foundYield d).events.record k = s.events.record k := record_record_ne s h d .info

theorem upperYield_record {k : EventKind} (h : k ≠ .yieldFound) :
    (s.upperYield p x).events.record k = s.events.record k := by
  unfold State.upperYield
  split_ifs
  · dsimp only
    split
    · split_ifs
      · exact foundYield_record _ h _
      · rfl
    · rfl
  · rfl

theorem offsetYield_record {k : EventKind} (h : k ≠ .yieldFound) :
    (s.offsetYield p x).events.record k = s.events.record k := by
  unfold State.offsetYield
  split
  · split_ifs
    · exact foundYield_record _ h _
    · rfl
    · rfl
  · rfl

@[simp] theorem plateauStep_events : (s.plateauStep p x).events = s.events := by
  unfold State.plateauStep
  split <;> rfl

theorem neckingStep_record {k : EventKind} (h : k ≠ .fmaxPassed) :
    (s.neckingStep p x).events.record k = s.events.record k := by
  have hneck (m : Int) : ((((s.onEval (·.neck)).raise .fmaxPassed (signed32 (newtons m))).send .fmaxPassed).send
      .necking).events.record k = s.events.record k := record_record_ne (s.onEval (·.neck)) h _ .info
  unfold State.neckingStep
  split
  · split
    · exact hneck _
    · rfl
  · split
    · exact hneck _
    · rfl
  · rfl

/-! ### A test point in a test (R159) -/

/-- Upper yield, offset yield, plateau and necking at a test point. -/
def State.yieldSteps (s : State) (p : Program) (x : Point) : State :=
  (((s.upperYield p x).offsetYield p x).plateauStep p x).neckingStep p x

theorem evaluated_yieldSteps : s.Evaluated (s.yieldSteps p x) :=
  (((evaluated_upperYield ..).trans (evaluated_offsetYield ..)).trans (evaluated_plateauStep ..)).trans
    (evaluated_neckingStep ..)

theorem yieldSteps_measured : (s.yieldSteps p x).eval.measured = s.eval.measured := by
  rw [State.yieldSteps, neckingStep_measured, plateauStep_measured, offsetYield_measured, upperYield_measured]

theorem yieldSteps_record {k : EventKind} (h : k ≠ .yieldFound) (h' : k ≠ .fmaxPassed) :
    (s.yieldSteps p x).events.record k = s.events.record k := by
  rw [State.yieldSteps, neckingStep_record _ _ _ h', plateauStep_events, offsetYield_record _ _ _ h,
    upperYield_record _ _ _ h]

end

section
variable {s : State} {p : Program} {x : Point} {rest : List Point}

theorem exec_evaluationTestPoint_of_none (h : s.points.evaluation = []) :
    exec .evaluationTestPoint s = .next s.transmit := by
  change execEvaluationTestPoint s = _
  unfold execEvaluationTestPoint
  rw [h]
  rfl

theorem exec_evaluationTestPoint_of_not_inTest (h : s.points.evaluation = x :: rest) (hin : s.inTest = false) :
    exec .evaluationTestPoint s = .next (s.onPoints fun d => { d with evaluation := rest }).transmit := by
  change execEvaluationTestPoint s = _
  have hin' : (s.onPoints fun d => { d with evaluation := rest }).inTest = false := hin
  unfold execEvaluationTestPoint State.evaluationPoint
  simp only [h, hin']
  rfl

/-- The state in which a test point is evaluated: the point taken, energy and maximum force of it. -/
def State.pointTaken (s : State) (x : Point) (rest : List Point) : State :=
  (s.onPoints fun d => { d with evaluation := rest }).onEval fun e => (e.addEnergy x).raiseMax x

theorem exec_evaluationTestPoint (h : s.points.evaluation = x :: rest) (hin : s.inTest = true) (hp : s.program = some p) :
    exec .evaluationTestPoint s = .next (State.transmit (
      if s.force.capture.isSome = true then s.pointTaken x rest
      else ((s.pointTaken x rest).fitStep x).yieldSteps p x)) := by
  change execEvaluationTestPoint s = _
  have hin' : (s.onPoints fun d => { d with evaluation := rest }).inTest = true := hin
  have hp' : (s.onPoints fun d => { d with evaluation := rest }).program = some p := hp
  unfold execEvaluationTestPoint State.evaluationPoint
  simp only [h, hin', hp']
  rfl

end

end Sys2Proof.Machine
end

section
/-! Settling the evaluation's energy, maximum force and elastic fit (spec/09 sections 9.2 to 9.4). -/

namespace Sys2Proof.Machine

/-! ### Values within their widths -/

theorem fits32_iff (x : Int) : fits 32 x = true ↔ -2147483648 ≤ x ∧ x ≤ 2147483647 := by
  rw [fits, decide_eq_true_iff]
  norm_num
  omega

theorem form64_mul {a b A B : Int} (ha : |a| ≤ A) (hb : |b| ≤ B) (h : A * B ≤ 9223372036854775807) :
    form64 (a * b) = a * b := by
  have hab : |a * b| ≤ A * B := by
    rw [abs_mul]
    exact mul_le_mul ha hb (abs_nonneg b) ((abs_nonneg a).trans ha)
  obtain ⟨hlow, hhigh⟩ := abs_le.1 hab
  exact form64_of_fits ⟨by omega, by omega⟩

theorem abs_le_of_fits32 {x : Int} (h : fits 32 x = true) : |x| ≤ 2147483648 := by
  obtain ⟨hlow, hhigh⟩ := (fits32_iff x).1 h
  exact abs_le.2 ⟨hlow, by omega⟩

/-! ### Energy and maximum force (R160, R161) -/

/-- Fmax and Agt are those of the point where its force is above every one before. -/
theorem raiseMax_eq (e : Evaluation) (x : Point) [Decidable (∀ m, e.fmax = some m → m < x.f)] :
    e.raiseMax x = { e with fmax := if ∀ m, e.fmax = some m → m < x.f then some x.f else e.fmax,
                            agt := if ∀ m, e.fmax = some m → m < x.f then some x.eps else e.agt } := by
  have hall : (e.fmax.all fun m => decide (m < x.f)) = true ↔ ∀ m, e.fmax = some m → m < x.f := by
    cases e.fmax <;> simp
  rw [Evaluation.raiseMax]
  by_cases h : ∀ m, e.fmax = some m → m < x.f
  · rw [if_pos (hall.2 h), if_pos h, if_pos h]
  · rw [if_neg (h ∘ hall.1), if_neg h, if_neg h]

theorem addEnergy_eq {e : Evaluation} {x : Point} (hf : fits 32 x.f = true) (hd : fits 32 x.d = true)
    (hprev : fits 32 e.prevD = true) :
    e.addEnergy x = { e with energy := sat64 (e.energy + x.f * (x.d - e.prevD)), prevD := x.d } := by
  obtain ⟨hdlow, hdhigh⟩ := (fits32_iff _).1 hd
  obtain ⟨hplow, hphigh⟩ := (fits32_iff _).1 hprev
  have hstep : |x.d - e.prevD| ≤ 4294967295 := abs_le.2 ⟨by omega, by omega⟩
  rw [Evaluation.addEnergy, form64_mul (abs_le_of_fits32 hf) hstep (by norm_num)]

/-! ### The elastic fit at a point (R162 to R165) -/

section
variable {s : State} {p : Program} {x : Point}

theorem fitStep_of_not_elastic (h : ¬(s.eval.phase = .elastic ∧ s.eval.fit = .opened ∧ x.held = false)) :
    s.fitStep x = s := if_neg h

/-- The fit leaves energy and maximum force. -/
theorem fitStep_kept (s : State) (x : Point) : ∃ n sumE sumF sumEE sumEF overflow fit slope intercept modulus,
    (s.fitStep x).eval = { s.eval with
      n := n, sumE := sumE, sumF := sumF, sumEE := sumEE, sumEF := sumEF, overflow := overflow,
      fit := fit, slope := slope, intercept := intercept, modulus := modulus } := by
  unfold State.fitStep
  split
  · split
    · rw [raiseFit_eval, onEval_eval, Evaluation.closeFit]
      split <;> exact ⟨_, _, _, _, _, _, _, _, _, _, rfl⟩
    · split
      · rw [onEval_eval, Evaluation.addPoint]
        split
        · exact ⟨_, _, _, _, _, _, _, _, _, _, rfl⟩
        · split <;> exact ⟨_, _, _, _, _, _, _, _, _, _, rfl⟩
      · exact ⟨_, _, _, _, _, _, _, _, _, _, rfl⟩
  · exact ⟨_, _, _, _, _, _, _, _, _, _, rfl⟩

theorem fitStep_of_below (hlo : x.f < s.eval.fLo) (hhi : x.f ≤ s.eval.fHi) : s.fitStep x = s := by
  rw [State.fitStep, if_neg (show ¬ s.eval.fHi < x.f by omega), if_neg (show ¬ s.eval.fLo ≤ x.f by omega), ite_self]

theorem fitStep_of_window (h : s.eval.phase = .elastic ∧ s.eval.fit = .opened ∧ x.held = false)
    (hlo : s.eval.fLo ≤ x.f) (hhi : x.f ≤ s.eval.fHi) : s.fitStep x = s.onEval (·.addPoint x) := by
  rw [State.fitStep, if_pos h, if_neg (show ¬ s.eval.fHi < x.f by omega), if_pos hlo]

theorem fitStep_of_above (h : s.eval.phase = .elastic ∧ s.eval.fit = .opened ∧ x.held = false) (hhi : s.eval.fHi < x.f) :
    s.fitStep x = (s.onEval (·.closeFit s.s0)).raiseFit s.eval.n s.eval.invalidity := by
  rw [State.fitStep, if_pos h, if_pos hhi]

theorem addPoint_eq {e : Evaluation} (hf : fits 32 x.f = true) (heps : fits 32 x.eps = true) :
    e.addPoint x =
      if e.overflow = true then e
      else if fits 64 (e.n + 1) = true ∧ fits 64 (e.sumE + x.eps) = true ∧ fits 64 (e.sumF + x.f) = true ∧
          fits 64 (e.sumEE + x.eps * x.eps) = true ∧ fits 64 (e.sumEF + x.eps * x.f) = true then
        { e with n := e.n + 1, sumE := e.sumE + x.eps, sumF := e.sumF + x.f, sumEE := e.sumEE + x.eps * x.eps,
                 sumEF := e.sumEF + x.eps * x.f }
      else { e with overflow := true } := by
  have hsquare := form64_mul (abs_le_of_fits32 heps) (abs_le_of_fits32 heps) (by norm_num)
  have hproduct := form64_mul (abs_le_of_fits32 heps) (abs_le_of_fits32 hf) (by norm_num)
  simp only [Evaluation.addPoint, Evaluation.summed, Evaluation.sumsFit, hsquare, hproduct, Bool.and_eq_true, and_assoc]

/-- The verdict of the closing fit (R164). -/
theorem closeFit_of_good {e : Evaluation} (h : e.invalidity = none) (s0 : Int) :
    e.closeFit s0 = { e with fit := .valid, slope := some e.slopeOf,
                             intercept := some (roundDiv (form128 (e.sumF * e.den - e.num * e.sumE)) (form128 (e.n * e.den))),
                             modulus := some (roundDiv (form128 (e.num * 10000000)) (form128 (e.den * s0))) } := by
  rw [Evaluation.closeFit, h]
  rfl

theorem closeFit_of_bad {e : Evaluation} {code : Nat} (h : e.invalidity = some code) (s0 : Int) :
    e.closeFit s0 = { e with fit := .invalid } := by
  rw [Evaluation.closeFit, h]

theorem invalidity_of_good {e : Evaluation} (h : e.overflow = false ∧ 20 ≤ e.n ∧ 0 < e.den ∧ 0 < e.slopeOf) :
    e.invalidity = none := by
  obtain ⟨ho, hn, hd, hm⟩ := h
  rw [Evaluation.invalidity, ho, if_neg Bool.false_ne_true, if_neg (by omega), if_neg (by omega), if_neg (by omega)]

theorem invalidity_of_bad {e : Evaluation} (h : ¬(e.overflow = false ∧ 20 ≤ e.n ∧ 0 < e.den ∧ 0 < e.slopeOf)) :
    e.invalidity = some (if e.overflow = true then 1 else if e.n < 20 then 2 else if e.den ≤ 0 then 3 else 4) := by
  unfold Evaluation.invalidity
  split_ifs with ho hn hd hm
  · rfl
  · rfl
  · rfl
  · rfl
  · exact absurd ⟨Bool.eq_false_iff.2 ho, by omega, by omega, by omega⟩ h

theorem raiseFit_fitClosed (s : State) (n : Int) (i : Option Nat) :
    (s.raiseFit n i).events.record .fitClosed = some (s.events.oneMore .fitClosed s.clock (unsigned32 n) .info) := by
  cases i with
  | none => exact record_record_self ..
  | some c => exact (record_record_ne _ (by decide) _ _).trans (record_record_self ..)

theorem raiseFit_fitInvalid_of_none (s : State) (n : Int) :
    (s.raiseFit n none).events.record .fitInvalid = s.events.record .fitInvalid := record_record_ne s (by decide) _ _

theorem raiseFit_fitInvalid_of_some (s : State) (n : Int) (code : Nat) :
    (s.raiseFit n (some code)).events.record .fitInvalid =
      some (s.events.oneMore .fitInvalid s.clock (BitVec.ofNat 32 code) .warning) := by
  refine (record_record_self (s.record .fitClosed (unsigned32 n) .info) .fitInvalid _ .warning).trans ?_
  exact congrArg some ((oneMore_record_ne s (by decide) _ _ _ _ _).trans (by rw [record_clock]))

/-! ### Below the window nothing is tracked -/

theorem offsetYield_of_not_valid (h : s.eval.fit ≠ .valid ∨ s.eval.rp ≠ none) : s.offsetYield p x = s := by
  unfold State.offsetYield
  split
  next hfit hrp _ _ => exact absurd (h.resolve_left (· hfit)) (· hrp)
  · rfl

theorem plateauStep_of_not_discontinuous (h : s.eval.phase ≠ .discontinuous) : s.plateauStep p x = s := if_neg h

theorem neckingStep_of_other (h : s.eval.phase ≠ .discontinuous) (h' : s.eval.phase ≠ .hardening) :
    s.neckingStep p x = s := by
  unfold State.neckingStep
  split
  next hphase _ => exact absurd hphase h
  next hphase _ => exact absurd hphase h'
  · rfl

theorem upperYield_of_untracked (hphase : s.eval.phase = .elastic) (htrack : s.eval.tracking = none)
    (hfit : s.eval.fit = .opened) (hhi : x.f ≤ s.eval.fHi) : s.upperYield p x = s := by
  have hstay : s.eval.track x = s.eval := by
    have hno : ¬ (s.eval.fit ≠ .opened ∨ s.eval.fHi < x.f) := by simp [hfit, hhi]
    rw [Evaluation.track, htrack]
    exact if_neg hno
  have hkept : s.onEval (·.track x) = s := by rw [State.onEval, hstay]
  rw [State.upperYield, if_pos hphase, hkept]
  simp only [htrack]

theorem yieldSteps_of_untracked (hphase : s.eval.phase = .elastic) (htrack : s.eval.tracking = none)
    (hfit : s.eval.fit = .opened) (hhi : x.f ≤ s.eval.fHi) : s.yieldSteps p x = s := by
  rw [State.yieldSteps, upperYield_of_untracked hphase htrack hfit hhi,
    offsetYield_of_not_valid (.inl (by rw [hfit]; decide)), plateauStep_of_not_discontinuous (by rw [hphase]; decide),
    neckingStep_of_other (by rw [hphase]; decide) (by rw [hphase]; decide)]

/-! ### What each of the later steps leaves of the evaluation -/

theorem offsetYield_kept (s : State) (p : Program) (x : Point) :
    ∃ rp path phase, (s.offsetYield p x).eval = { s.eval with rp := rp, path := path, phase := phase } := by
  unfold State.offsetYield
  split
  · split_ifs
    · rw [foundYield_eval]
      exact ⟨_, _, _, rfl⟩
    · exact ⟨_, _, _, rfl⟩
    · exact ⟨_, _, _, rfl⟩
  · exact ⟨_, _, _, rfl⟩

theorem lowerYield_kept (e : Evaluation) (x : Point) :
    ∃ reL plateau phase, e.lowerYield x = { e with reL := reL, plateau := plateau, phase := phase } := by
  unfold Evaluation.lowerYield
  split
  · split
    · split <;> exact ⟨_, _, _, rfl⟩
    · split <;> exact ⟨_, _, _, rfl⟩
  · exact ⟨_, _, _, rfl⟩

theorem endPlateau_kept (e : Evaluation) (margin : Int) (x : Point) :
    ∃ ae plateau phase, e.endPlateau margin x = { e with ae := ae, plateau := plateau, phase := phase } := by
  unfold Evaluation.endPlateau
  split
  · split <;> exact ⟨_, _, _, rfl⟩
  · exact ⟨_, _, _, rfl⟩

theorem plateauStep_kept (s : State) (p : Program) (x : Point) : ∃ reL plateau phase ae,
    (s.plateauStep p x).eval = { s.eval with reL := reL, plateau := plateau, phase := phase, ae := ae } := by
  unfold State.plateauStep
  split
  · obtain ⟨_, _, _, hlower⟩ := lowerYield_kept s.eval x
    rw [onEval_eval, Evaluation.plateauAt]
    split
    · exact ⟨_, _, _, _, hlower⟩
    · obtain ⟨_, _, _, hend⟩ := endPlateau_kept (s.eval.lowerYield x) p.margin x
      rw [hend, hlower]
      exact ⟨_, _, _, _, rfl⟩
  · exact ⟨_, _, _, _, rfl⟩

theorem neckingStep_kept (s : State) (p : Program) (x : Point) :
    ∃ phase plateau, (s.neckingStep p x).eval = { s.eval with phase := phase, plateau := plateau } := by
  have hneck (m : Int) : ((((s.onEval (·.neck)).raise .fmaxPassed (signed32 (newtons m))).send .fmaxPassed).send
      .necking).eval = s.eval.neck := record_eval (s.onEval (·.neck)) _ _ .info
  unfold State.neckingStep
  split
  · split
    · exact ⟨_, _, hneck _⟩
    · exact ⟨_, _, rfl⟩
  · split
    · exact ⟨_, _, hneck _⟩
    · exact ⟨_, _, rfl⟩
  · exact ⟨_, _, rfl⟩

/-- The steps after the upper yield leave its candidate, its capture and the maximum force. -/
theorem laterSteps_kept (s : State) (p : Program) (x : Point) : ∃ rp path reL ae plateau phase,
    (((s.offsetYield p x).plateauStep p x).neckingStep p x).eval =
      { s.eval with rp := rp, path := path, reL := reL, ae := ae, plateau := plateau, phase := phase } := by
  obtain ⟨_, _, _, hoffset⟩ := offsetYield_kept s p x
  obtain ⟨_, _, _, _, hplateau⟩ := plateauStep_kept (s.offsetYield p x) p x
  obtain ⟨_, _, hnecking⟩ := neckingStep_kept ((s.offsetYield p x).plateauStep p x) p x
  rw [hnecking, hplateau, hoffset]
  exact ⟨_, _, _, _, _, _, rfl⟩

theorem upperYield_tracking (h : s.eval.phase = .elastic) : (s.upperYield p x).eval.tracking = (s.eval.track x).tracking := by
  rw [State.upperYield, if_pos h]
  dsimp only
  split
  · split
    · rw [foundYield_eval]
      rfl
    · rfl
  · rfl

theorem yieldSteps_tracking (h : s.eval.phase = .elastic) : (s.yieldSteps p x).eval.tracking = (s.eval.track x).tracking := by
  obtain ⟨_, _, _, _, _, _, hlater⟩ := laterSteps_kept (s.upperYield p x) p x
  rw [State.yieldSteps, hlater, ← upperYield_tracking (p := p) h]

end

/-- Settles O42: what every point adds, the points of the fit, and its verdict. -/
theorem evaluationSumsEnergyMaximumAndFit : Obligations.EvaluationSumsEnergyMaximumAndFit := by
  refine ⟨fun s h => exec_evaluationTestPoint_of_none h, ?_⟩
  intro s x rest p hx hp hf heps hd hprev b higher first elastic
  have hfirst : (s.eval.addEnergy x).raiseMax x = first := by
    classical
    rw [raiseMax_eq, addEnergy_eq hf hd hprev]
  let s1 : State := { b with eval := first }
  have htaken : s.pointTaken x rest = s1 := by
    rw [State.pointTaken, State.onEval, onPoints_eval, hfirst]
    rfl
  have hcaptured (hin : s.inTest = true) (hc : s.force.capture.isSome = true) :
      exec .evaluationTestPoint s = .next s1.transmit := by
    rw [exec_evaluationTestPoint hx hin hp, htaken, if_pos hc]
  have hgoing (hin : s.inTest = true) (hc : s.force.capture = none) :
      exec .evaluationTestPoint s = .next ((s1.fitStep x).yieldSteps p x).transmit := by
    rw [exec_evaluationTestPoint hx hin hp, htaken, hc]
    rfl
  refine ⟨fun hin => exec_evaluationTestPoint_of_not_inTest hx hin, fun hin => ?_, hcaptured,
    fun hin hc hel htr hlo hhi => ?_, fun hin hc hel htr hlo hhi => ?_, ?_⟩
  · cases hc : s.force.capture with
    | some c =>
      exact ⟨_, hcaptured hin (by rw [hc]; rfl), rfl, rfl, rfl, rfl,
        fun _ => ⟨rfl, rfl, rfl, rfl, rfl, rfl, rfl, rfl, rfl, rfl, rfl, rfl⟩⟩
    | none =>
      have hmeasured := yieldSteps_measured (s1.fitStep x) p x
      obtain ⟨_, _, _, _, _, _, _, _, _, _, hfit⟩ := fitStep_kept s1 x
      refine ⟨_, hgoing hin hc, ?_, ?_, ?_, ?_, fun hel => ?_⟩
      · exact (congrArg Evaluation.energy hmeasured :).trans (congrArg Evaluation.energy hfit :)
      · exact (congrArg Evaluation.prevD hmeasured :).trans (congrArg Evaluation.prevD hfit :)
      · exact (congrArg Evaluation.fmax hmeasured :).trans (congrArg Evaluation.fmax hfit :)
      · exact (congrArg Evaluation.agt hmeasured :).trans (congrArg Evaluation.agt hfit :)
      · rw [fitStep_of_not_elastic (s := s1) hel] at hmeasured ⊢
        exact ⟨(congrArg Evaluation.n hmeasured :), (congrArg Evaluation.sumE hmeasured :),
          (congrArg Evaluation.sumF hmeasured :), (congrArg Evaluation.sumEE hmeasured :),
          (congrArg Evaluation.sumEF hmeasured :), (congrArg Evaluation.overflow hmeasured :),
          (congrArg Evaluation.fit hmeasured :), (congrArg Evaluation.slope hmeasured :),
          (congrArg Evaluation.intercept hmeasured :),
          (congrArg Evaluation.modulus hmeasured :), yieldSteps_record s1 p x (by decide) (by decide),
          yieldSteps_record s1 p x (by decide) (by decide)⟩
  · rw [hgoing hin hc, fitStep_of_below (s := s1) hlo hhi, yieldSteps_of_untracked (s := s1) hel.1 htr hel.2.1 hhi]
  · have hadd := addPoint_eq (e := first) hf heps
    have hsame : (first.addPoint x).phase = .elastic ∧ (first.addPoint x).tracking = none ∧
        (first.addPoint x).fit = .opened ∧ x.f ≤ (first.addPoint x).fHi := by
      rw [hadd]
      split_ifs <;> exact ⟨hel.1, htr, hel.2.1, hhi⟩
    obtain ⟨hphase, htrack, hfit, htop⟩ := hsame
    rw [hgoing hin hc, fitStep_of_window (s := s1) hel hlo hhi,
      yieldSteps_of_untracked (s := s1.onEval (·.addPoint x)) hphase htrack hfit htop, State.onEval, hadd]
  · intro hin hc hel hhi num den slope good code
    let s2 : State := (s1.onEval (·.closeFit s.s0)).raiseFit s.eval.n first.invalidity
    have hclosed : s1.fitStep x = s2 := fitStep_of_above (s := s1) hel hhi
    have heval : s2.eval = first.closeFit s.s0 := raiseFit_eval _ _ _
    have hphase : s2.eval.phase = .elastic := by
      rw [heval, Evaluation.closeFit]
      split <;> exact hel.1
    have hmeasured : (s2.yieldSteps p x).eval.measured = (first.closeFit s.s0).measured :=
      (yieldSteps_measured ..).trans (congrArg _ heval)
    have hrecord {k : EventKind} (h : k ≠ .yieldFound) (h' : k ≠ .fmaxPassed) :
        (s2.yieldSteps p x).transmit.events.record k = s2.events.record k := yieldSteps_record s2 p x h h'
    refine ⟨_, hclosed ▸ hgoing hin hc, ?_, fun htr => ?_, ?_, ?_, fun hgood => ?_, fun hbad => ?_⟩
    · obtain ⟨e, v, l, m, ht⟩ := ((evaluated_onEval s1 _).trans (evaluated_raiseFit _ s.eval.n first.invalidity)).trans
        ((evaluated_yieldSteps s2 p x).trans (evaluated_transmit _))
      rw [ht]
    · refine (yieldSteps_tracking hphase).trans ?_
      have hclose : (first.closeFit s.s0).fit ≠ .opened ∧ (first.closeFit s.s0).tracking = none := by
        rw [Evaluation.closeFit]
        split <;> exact ⟨nofun, htr⟩
      rw [heval, Evaluation.track, hclose.2]
      exact congrArg Evaluation.tracking (if_pos (.inl hclose.1))
    · refine (congrArg Evaluation.n hmeasured :).trans ?_
      change (first.closeFit s.s0).n = _
      rw [Evaluation.closeFit]
      split <;> rfl
    · exact (hrecord (by decide) (by decide)).trans (raiseFit_fitClosed ..)
    · have hnone := invalidity_of_good (e := first) hgood
      rw [closeFit_of_good hnone] at hmeasured
      refine ⟨(congrArg Evaluation.fit hmeasured :), (congrArg Evaluation.slope hmeasured :),
        (congrArg Evaluation.intercept hmeasured :), (congrArg Evaluation.modulus hmeasured :), ?_⟩
      refine (hrecord (by decide) (by decide)).trans ?_
      change ((s1.onEval _).raiseFit _ first.invalidity).events.record _ = _
      rw [hnone]
      exact raiseFit_fitInvalid_of_none ..
    · have hcode := invalidity_of_bad (e := first) hbad
      rw [closeFit_of_bad hcode] at hmeasured
      refine ⟨(congrArg Evaluation.fit hmeasured :), (congrArg Evaluation.slope hmeasured :),
        (congrArg Evaluation.intercept hmeasured :), (congrArg Evaluation.modulus hmeasured :), ?_⟩
      refine (hrecord (by decide) (by decide)).trans ?_
      change ((s1.onEval _).raiseFit _ first.invalidity).events.record _ = _
      rw [hcode]
      exact raiseFit_fitInvalid_of_some ..

end Sys2Proof.Machine
end

section
/-! The evaluation unit at a test point: yield and necking (spec/09 sections 9.5 to 9.8). -/

namespace Sys2Proof.Machine

section
variable {s : State} {p : Program} {x : Point}

/-! ### Necking (R172) -/

/-- The state once necking is found at a maximum force. -/
def State.necked (s : State) (m : Int) : State :=
  (((s.onEval (·.neck)).raise .fmaxPassed (signed32 (newtons m))).send .fmaxPassed).send .necking

/-- The force has fallen by the necking threshold below a maximum. -/
def fallenBelow (p : Program) (x : Point) (m : Int) : Prop :=
  form64 (x.f * 1000) ≤ form64 (m * (1000 - p.neckingThreshold))

theorem necked_eval (s : State) (m : Int) : (s.necked m).eval = s.eval.neck := record_eval (s.onEval (·.neck)) _ _ .info

theorem necked_mail (s : State) (m : Int) : (s.necked m).mail = s.mail ++ [.fmaxPassed, .necking] := by
  have hmail := record_mail (s.onEval (·.neck)) .fmaxPassed (signed32 (newtons m)) .info
  change (((s.onEval (·.neck)).record .fmaxPassed (signed32 (newtons m)) .info).mail ++ [.fmaxPassed]) ++ [.necking] = _
  rw [hmail, List.append_assoc]
  rfl

theorem necked_record_self (s : State) (m : Int) :
    (s.necked m).events.record .fmaxPassed =
      some (s.events.oneMore .fmaxPassed s.clock (signed32 (roundDiv m 1000)) .info) :=
  record_record_self (s.onEval (·.neck)) _ _ .info

theorem neckingStep_of_fallen {m : Int} (h : s.eval.phase = .discontinuous ∨ s.eval.phase = .hardening)
    (hm : s.eval.fmax = some m) (hfall : fallenBelow p x m) : s.neckingStep p x = s.necked m := by
  unfold State.neckingStep
  rcases h with h | h <;> rw [h, hm] <;> exact if_pos hfall

theorem neckingStep_of_not_fallen {m : Int} (hm : s.eval.fmax = some m) (hfall : ¬ fallenBelow p x m) :
    s.neckingStep p x = s := by
  unfold State.neckingStep
  rw [hm]
  split
  next h => cases h; exact if_neg hfall
  next h => cases h; exact if_neg hfall
  · rfl

/-- Necking is found, or nothing changes. -/
theorem neckingStep_cases (s : State) (p : Program) (x : Point) :
    s.neckingStep p x = s ∨
      (s.eval.phase = .discontinuous ∨ s.eval.phase = .hardening) ∧ ∃ m, s.neckingStep p x = s.necked m := by
  by_cases h : s.eval.phase = .discontinuous ∨ s.eval.phase = .hardening
  · cases hm : s.eval.fmax with
    | none =>
      left
      unfold State.neckingStep
      rw [hm]
      split <;> simp_all
    | some m =>
      by_cases hfall : fallenBelow p x m
      · exact .inr ⟨h, m, neckingStep_of_fallen h hm hfall⟩
      · exact .inl (neckingStep_of_not_fallen hm hfall)
  · exact .inl (neckingStep_of_other (h ∘ .inl) (h ∘ .inr))

/-! ### The offset yield (R170, R171) -/

theorem offsetYield_of_line {m b : Int} (hfit : s.eval.fit = .valid) (hrp : s.eval.rp = none) (hm : s.eval.slope = some m)
    (hb : s.eval.intercept = some b) :
    s.offsetYield p x =
      if x.f ≤ offsetLine m b x.eps p.rpOffset then
        if s.eval.phase = .elastic then
          (s.onEval fun e => { e with rp := some x.f, path := .continuous, phase := .hardening }).foundYield 2
        else s.onEval fun e => { e with rp := some x.f }
      else s := by
  unfold State.offsetYield
  rw [hfit, hrp, hm, hb]
  rfl

/-- Outside ELASTIC the offset yield is recorded with nothing else. -/
theorem offsetYield_of_not_elastic (h : s.eval.phase ≠ .elastic) :
    ∃ rp, s.offsetYield p x = s.onEval fun e => { e with rp := rp } := by
  unfold State.offsetYield
  split
  · rw [if_neg h]
    split
    · exact ⟨_, rfl⟩
    · exact ⟨s.eval.rp, rfl⟩
  · exact ⟨s.eval.rp, rfl⟩

theorem offsetYield_phase_of_elastic (h : s.eval.phase = .elastic) :
    (s.offsetYield p x).eval.phase = .elastic ∨ (s.offsetYield p x).eval.phase = .hardening := by
  unfold State.offsetYield
  split
  · rw [if_pos h]
    split
    · rw [foundYield_eval]
      exact .inr rfl
    · exact .inl h
  · exact .inl h

/-! ### The plateau (R168, R169) -/

section
variable {e : Evaluation} {margin : Int}

/-- The force has climbed by the margin above the lower yield. -/
def climbedAbove (margin : Int) (x : Point) (r : Int) : Prop := form64 (r * (1000 + margin)) ≤ form64 (x.f * 1000)

theorem endPlateau_of_none (h : e.reL = none) : e.endPlateau margin x = e := by
  unfold Evaluation.endPlateau
  rw [h]
  split <;> simp_all

theorem endPlateau_of_climbed {r start : Int} (hphase : e.phase = .discontinuous) (hr : e.reL = some r)
    (hstart : e.epsReH = some start) (hc : climbedAbove margin x r) :
    e.endPlateau margin x = { e with ae := some (x.eps - start), plateau := .ended, phase := .hardening } := by
  unfold Evaluation.endPlateau
  rw [hphase, hr, hstart]
  exact if_pos hc

theorem endPlateau_of_not_climbed {r : Int} (hr : e.reL = some r) (hc : ¬ climbedAbove margin x r) :
    e.endPlateau margin x = e := by
  unfold Evaluation.endPlateau
  rw [hr]
  split
  next h _ => cases h; exact if_neg hc
  · rfl

theorem plateauAt_of_guarded {g : Int} (hg : e.guardEnd = some g) (h : x.eps < g) :
    e.plateauAt margin x = e.endPlateau margin x := by
  have hno : ¬ g ≤ x.eps := by omega
  rw [Evaluation.plateauAt, Evaluation.lowers, Evaluation.lowerYield, hg]
  simp [hno]

theorem plateauAt_of_first {g h : Int} (hg : e.guardEnd = some g) (hx : g ≤ x.eps) (hr : e.reL = none)
    (hh : e.reH = some h) (hlow : x.f < h) :
    e.plateauAt margin x = { e with reL := some x.f }.endPlateau margin x := by
  rw [Evaluation.plateauAt, Evaluation.lowers, Evaluation.lowerYield, hg, hr, hh]
  simp [hx, hlow]

theorem plateauAt_of_high {g h : Int} (hg : e.guardEnd = some g) (hx : g ≤ x.eps) (hr : e.reL = none)
    (hh : e.reH = some h) (hhigh : h ≤ x.f) :
    e.plateauAt margin x = { e with plateau := .cutShort, phase := .hardening } := by
  have hno : ¬ x.f < h := by omega
  rw [Evaluation.plateauAt, Evaluation.lowers, Evaluation.lowerYield, hg, hr, hh]
  simp [hx, hno, Evaluation.endPlateau]

theorem plateauAt_of_lower {g r : Int} (hg : e.guardEnd = some g) (hx : g ≤ x.eps) (hr : e.reL = some r) (hlow : x.f < r) :
    e.plateauAt margin x = { e with reL := some x.f } := by
  rw [Evaluation.plateauAt, Evaluation.lowers, Evaluation.lowerYield, hg, hr]
  simp [hx, hlow]

theorem plateauAt_of_above {g r : Int} (hg : e.guardEnd = some g) (hx : g ≤ x.eps) (hr : e.reL = some r) (hhigh : r ≤ x.f) :
    e.plateauAt margin x = e.endPlateau margin x := by
  have hno : ¬ x.f < r := by omega
  rw [Evaluation.plateauAt, Evaluation.lowers, Evaluation.lowerYield, hg, hr]
  simp [hx, hno]

/-- At a plateau the unit stays in DISCONTINUOUS or goes to HARDENING. -/
theorem plateauAt_phase (h : e.phase = .discontinuous) :
    (e.plateauAt margin x).phase = .discontinuous ∨ (e.plateauAt margin x).phase = .hardening := by
  have hlower : (e.lowerYield x).phase = .discontinuous ∨ (e.lowerYield x).phase = .hardening := by
    unfold Evaluation.lowerYield
    split
    · split
      · split <;> exact .inl h
      · split
        · exact .inl h
        · exact .inr rfl
    · exact .inl h
  rw [Evaluation.plateauAt]
  split
  · exact hlower
  · unfold Evaluation.endPlateau
    split
    · split
      · exact .inr rfl
      · exact hlower
    · exact hlower

end

end

end Sys2Proof.Machine
end

section
/-! Settling the evaluation's yield and necking (spec/09 sections 9.5 to 9.8). -/

namespace Sys2Proof.Machine

section
variable {s : State} {p : Program} {x : Point}

/-! ### The upper yield (R166, R167) -/

/-- The force has dropped by the yield drop below a candidate. -/
def droppedBelow (p : Program) (x : Point) (peak : Int) : Prop :=
  form64 (x.f * 1000) ≤ form64 (peak * (1000 - p.yieldDrop))

theorem upperYield_of_not_elastic (h : s.eval.phase ≠ .elastic) : s.upperYield p x = s := if_neg h

theorem upperYield_of_drop {c : Candidate} (h : s.eval.phase = .elastic) (hc : (s.eval.track x).tracking = some c)
    (hdrop : droppedBelow p x c.peak) :
    s.upperYield p x = (s.onEval fun e => (e.track x).capture c p.guardStrain).foundYield 1 := by
  rw [State.upperYield, if_pos h]
  simp only [onEval_eval, hc]
  exact if_pos hdrop

theorem upperYield_of_no_drop (h : s.eval.phase = .elastic)
    (hno : ∀ c, (s.eval.track x).tracking = some c → ¬ droppedBelow p x c.peak) :
    s.upperYield p x = s.onEval (·.track x) := by
  rw [State.upperYield, if_pos h]
  dsimp only
  split
  next c hc => exact if_neg (hno c hc)
  · rfl

theorem track_kept (e : Evaluation) (x : Point) : ∃ c, e.track x = { e with tracking := c } := by
  unfold Evaluation.track
  split <;> split <;> exact ⟨_, rfl⟩

theorem track_of_some {e : Evaluation} {c : Candidate} (hc : e.tracking = some c) :
    (e.track x).tracking = some (if c.peak < x.f then { peak := x.f, eps := x.eps } else c) := by
  rw [Evaluation.track, hc]
  dsimp only
  split_ifs
  · rfl
  · exact hc

theorem track_of_none {e : Evaluation} (hc : e.tracking = none) (h : e.fit ≠ .opened ∨ e.fHi < x.f) :
    (e.track x).tracking = some { peak := x.f, eps := x.eps } := by
  rw [Evaluation.track, hc]
  exact congrArg Evaluation.tracking (if_pos h)

/-- The upper yield leaves the fit, the offset yield and the lower yield. -/
theorem upperYield_kept (s : State) (p : Program) (x : Point) : ∃ tracking reH epsReH guardEnd plateau path phase,
    (s.upperYield p x).eval = { s.eval with
      tracking := tracking, reH := reH, epsReH := epsReH, guardEnd := guardEnd, plateau := plateau, path := path,
      phase := phase } := by
  obtain ⟨c, htrack⟩ := track_kept s.eval x
  unfold State.upperYield
  split
  · dsimp only
    split
    · split
      · rw [foundYield_eval, onEval_eval, onEval_eval, htrack]
        exact ⟨_, _, _, _, _, _, _, rfl⟩
      · rw [onEval_eval, htrack]
        exact ⟨_, _, _, _, _, _, _, rfl⟩
    · rw [onEval_eval, htrack]
      exact ⟨_, _, _, _, _, _, _, rfl⟩
  · exact ⟨_, _, _, _, _, _, _, rfl⟩

/-! ### The steps after the upper yield -/

/-- Outside ELASTIC: the offset yield, the plateau, and necking. -/
theorem laterSteps_of_not_elastic (h : s.eval.phase ≠ .elastic) (p : Program) (x : Point) :
    ∃ rp, ((s.offsetYield p x).plateauStep p x).neckingStep p x =
      ((s.onEval fun e => { e with rp := rp }).plateauStep p x).neckingStep p x := by
  obtain ⟨rp, hrp⟩ := offsetYield_of_not_elastic (p := p) (x := x) h
  exact ⟨rp, by rw [hrp]⟩

theorem plateauStep_mail (s : State) (p : Program) (x : Point) : (s.plateauStep p x).mail = s.mail := by
  unfold State.plateauStep
  split <;> rfl

theorem plateauStep_path (s : State) (p : Program) (x : Point) : (s.plateauStep p x).eval.path = s.eval.path := by
  obtain ⟨_, _, _, _, hplateau⟩ := plateauStep_kept s p x
  rw [hplateau]

/-- Necking leaves the path, the yields and YIELD_FOUND; the notices on their way are as before or followed by its two. -/
theorem neckingStep_yields (s : State) (p : Program) (x : Point) :
    (s.neckingStep p x).events.record .yieldFound = s.events.record .yieldFound ∧
      ((s.neckingStep p x).mail = s.mail ∨ (s.neckingStep p x).mail = s.mail ++ [.fmaxPassed, .necking]) := by
  refine ⟨neckingStep_record s p x (by decide), ?_⟩
  rcases neckingStep_cases s p x with h | ⟨-, m, h⟩ <;> rw [h]
  · exact .inl rfl
  · exact .inr (necked_mail s m)

theorem plateauStep_phase (h : s.eval.phase = .discontinuous) (p : Program) (x : Point) :
    (s.plateauStep p x).eval.phase = .discontinuous ∨ (s.plateauStep p x).eval.phase = .hardening := by
  rw [State.plateauStep, if_pos h]
  exact plateauAt_phase h

theorem plateauStep_phase_ne_elastic (h : s.eval.phase ≠ .elastic) : (s.plateauStep p x).eval.phase ≠ .elastic := by
  by_cases hd : s.eval.phase = .discontinuous
  · rcases plateauStep_phase hd p x with hp | hp <;> rw [hp] <;> decide
  · rw [plateauStep_of_not_discontinuous hd]
    exact h

theorem neckingStep_phase (s : State) (p : Program) (x : Point) :
    (s.neckingStep p x).eval.phase = s.eval.phase ∨ (s.neckingStep p x).eval.phase = .necking := by
  rcases neckingStep_cases s p x with h | ⟨-, m, h⟩ <;> rw [h]
  · exact .inl rfl
  · exact .inr (congrArg Evaluation.phase (necked_eval s m))

theorem neckingStep_path (s : State) (p : Program) (x : Point) : (s.neckingStep p x).eval.path = s.eval.path := by
  obtain ⟨_, _, hnecking⟩ := neckingStep_kept s p x
  rw [hnecking]

/-- Outside ELASTIC the path and YIELD_FOUND stay, and ELASTIC is not entered. -/
theorem laterSteps_outside (h : s.eval.phase ≠ .elastic) (p : Program) (x : Point) :
    let t := ((s.offsetYield p x).plateauStep p x).neckingStep p x
    t.eval.path = s.eval.path ∧ t.eval.phase ≠ .elastic ∧
      t.events.record .yieldFound = s.events.record .yieldFound ∧
      (t.mail = s.mail ∨ t.mail = s.mail ++ [.fmaxPassed, .necking]) := by
  obtain ⟨rp, hrp⟩ := laterSteps_of_not_elastic h p x
  dsimp only
  rw [hrp]
  let u : State := s.onEval fun e => { e with rp := rp }
  have hphase : (u.plateauStep p x).eval.phase ≠ .elastic := plateauStep_phase_ne_elastic h
  obtain ⟨hrecord, hmail⟩ := neckingStep_yields (u.plateauStep p x) p x
  rw [plateauStep_events] at hrecord
  rw [plateauStep_mail] at hmail
  refine ⟨?_, ?_, hrecord, hmail⟩
  · rw [neckingStep_path, plateauStep_path]
    rfl
  · rcases neckingStep_phase (u.plateauStep p x) p x with hp | hp <;> rw [hp]
    · exact hphase
    · decide

/-- Neither ELASTIC nor HARDENING becomes DISCONTINUOUS after the upper yield. -/
theorem laterSteps_of_elastic (h : s.eval.phase = .elastic) (p : Program) (x : Point) :
    (((s.offsetYield p x).plateauStep p x).neckingStep p x).eval.phase ≠ .discontinuous := by
  have hoffset : (s.offsetYield p x).eval.phase ≠ .discontinuous := by
    rcases offsetYield_phase_of_elastic (p := p) (x := x) h with hp | hp <;> rw [hp] <;> decide
  rw [plateauStep_of_not_discontinuous hoffset]
  rcases neckingStep_phase (s.offsetYield p x) p x with hp | hp <;> rw [hp]
  · exact hoffset
  · decide

theorem foundYield_mail (s : State) (d : Word32) : (s.foundYield d).mail = s.mail ++ [.yieldFound] :=
  congrArg (· ++ [Notice.yieldFound]) (record_mail s .yieldFound d .info)

theorem foundYield_record_self (s : State) (d : Word32) :
    (s.foundYield d).events.record .yieldFound = some (s.events.oneMore .yieldFound s.clock d .info) :=
  record_record_self s .yieldFound d .info

theorem mem_of_mail {m m' : List Notice} {n : Notice} (h : n ∈ m)
    (hm : m' = m ∨ m' = m ++ [.fmaxPassed, .necking]) : n ∈ m' := by
  rcases hm with rfl | rfl
  · exact h
  · exact List.mem_append_left _ h

/-! ### A point in ELASTIC -/

/-- A captured upper yield stands at the end of the point. -/
theorem yieldSteps_of_drop {c : Candidate} (h : s.eval.phase = .elastic) (hc : (s.eval.track x).tracking = some c)
    (hdrop : droppedBelow p x c.peak) :
    let t := s.yieldSteps p x
    t.eval.reH = some c.peak ∧ t.eval.epsReH = some c.eps ∧ t.eval.guardEnd = some (c.eps + p.guardStrain) ∧
      t.eval.path = .discontinuous ∧ t.eval.phase ≠ .elastic ∧ .yieldFound ∈ t.mail ∧
      t.events.record .yieldFound = some (s.events.oneMore .yieldFound s.clock 1 .info) := by
  let v : State := (s.onEval fun e => (e.track x).capture c p.guardStrain).foundYield 1
  have hv : v.eval = (s.eval.track x).capture c p.guardStrain := foundYield_eval _ _
  have hout : v.eval.phase ≠ .elastic := by
    rw [hv]
    nofun
  obtain ⟨_, _, _, _, _, _, hkept⟩ := laterSteps_kept v p x
  obtain ⟨hpath, hphase, hrecord, hmail⟩ := laterSteps_outside hout p x
  dsimp only
  rw [State.yieldSteps, upperYield_of_drop h hc hdrop]
  refine ⟨?_, ?_, ?_, ?_, hphase, ?_, ?_⟩
  · exact (congrArg Evaluation.reH hkept :).trans (congrArg Evaluation.reH hv :)
  · exact (congrArg Evaluation.epsReH hkept :).trans (congrArg Evaluation.epsReH hv :)
  · exact (congrArg Evaluation.guardEnd hkept :).trans (congrArg Evaluation.guardEnd hv :)
  · exact hpath.trans (congrArg Evaluation.path hv :)
  · refine mem_of_mail ?_ hmail
    rw [foundYield_mail]
    simp
  · exact hrecord.trans (foundYield_record_self _ _)

/-- Without a drop nothing is captured. -/
theorem yieldSteps_of_no_drop (h : s.eval.phase = .elastic)
    (hno : ∀ c, (s.eval.track x).tracking = some c → ¬ droppedBelow p x c.peak) :
    (s.yieldSteps p x).eval.reH = s.eval.reH ∧ (s.yieldSteps p x).eval.phase ≠ .discontinuous := by
  obtain ⟨c, htrack⟩ := track_kept s.eval x
  obtain ⟨_, _, _, _, _, _, hkept⟩ := laterSteps_kept (s.onEval (·.track x)) p x
  have hphase : (s.onEval (·.track x)).eval.phase = .elastic := by
    rw [onEval_eval, htrack]
    exact h
  rw [State.yieldSteps, upperYield_of_no_drop h hno]
  refine ⟨?_, laterSteps_of_elastic hphase p x⟩
  rw [hkept, onEval_eval, htrack]

/-- The offset yield in ELASTIC, where the upper yield captured nothing (R171). -/
theorem yieldSteps_of_offset {m b : Int} (h : s.eval.phase = .elastic)
    (hno : ∀ c, (s.eval.track x).tracking = some c → ¬ droppedBelow p x c.peak) (hfit : s.eval.fit = .valid)
    (hrp : s.eval.rp = none) (hm : s.eval.slope = some m) (hb : s.eval.intercept = some b)
    (hline : x.f ≤ offsetLine m b x.eps p.rpOffset) :
    let t := s.yieldSteps p x
    t.eval.rp = some x.f ∧ t.eval.path = .continuous ∧ t.eval.phase ≠ .elastic ∧ t.eval.plateau = s.eval.plateau ∧
      .yieldFound ∈ t.mail ∧ t.events.record .yieldFound = some (s.events.oneMore .yieldFound s.clock 2 .info) := by
  obtain ⟨c, htrack⟩ := track_kept s.eval x
  let u : State := s.onEval fun e => { e with tracking := c }
  have hu : s.onEval (·.track x) = u := by rw [State.onEval, htrack]; rfl
  let v : State := (u.onEval fun e => { e with rp := some x.f, path := .continuous, phase := .hardening }).foundYield 2
  have hoffset : u.offsetYield p x = v := by
    rw [offsetYield_of_line (s := u) hfit hrp hm hb, if_pos hline]
    exact if_pos h
  have hv : v.eval = { s.eval with tracking := c, rp := some x.f, path := .continuous, phase := .hardening } :=
    foundYield_eval _ _
  have hstay : v.plateauStep p x = v := plateauStep_of_not_discontinuous (by rw [hv]; nofun)
  obtain ⟨hrecord, hmail⟩ := neckingStep_yields v p x
  dsimp only
  rw [State.yieldSteps, upperYield_of_no_drop h hno, hu, hoffset, hstay]
  obtain ⟨_, _, hnecking⟩ := neckingStep_kept v p x
  have hplateau : (v.neckingStep p x).eval.plateau = s.eval.plateau := by
    rcases neckingStep_cases v p x with hn | ⟨-, m, hn⟩ <;> rw [hn]
    · rw [hv]
    · rw [necked_eval, hv]
      rfl
  refine ⟨?_, ?_, ?_, hplateau, ?_, ?_⟩
  · exact (congrArg Evaluation.rp hnecking :).trans (congrArg Evaluation.rp hv :)
  · exact (congrArg Evaluation.path hnecking :).trans (congrArg Evaluation.path hv :)
  · rcases neckingStep_phase v p x with hp | hp <;> rw [hp]
    · rw [hv]
      nofun
    · decide
  · refine mem_of_mail ?_ hmail
    rw [foundYield_mail]
    simp
  · exact hrecord.trans (foundYield_record_self _ _)

/-! ### The offset yield at any point (R170) -/

theorem plateauStep_rp (s : State) (p : Program) (x : Point) : (s.plateauStep p x).eval.rp = s.eval.rp := by
  obtain ⟨_, _, _, _, hplateau⟩ := plateauStep_kept s p x
  rw [hplateau]

theorem yieldSteps_rp (s : State) (p : Program) (x : Point) :
    (s.yieldSteps p x).eval.rp = ((s.upperYield p x).offsetYield p x).eval.rp := by
  obtain ⟨_, _, hnecking⟩ := neckingStep_kept (((s.upperYield p x).offsetYield p x).plateauStep p x) p x
  rw [State.yieldSteps, hnecking]
  exact plateauStep_rp ((s.upperYield p x).offsetYield p x) p x

theorem yieldSteps_rp_of_line {m b : Int} (hfit : s.eval.fit = .valid) (hrp : s.eval.rp = none)
    (hm : s.eval.slope = some m) (hb : s.eval.intercept = some b) :
    (s.yieldSteps p x).eval.rp = if x.f ≤ offsetLine m b x.eps p.rpOffset then some x.f else none := by
  obtain ⟨_, _, _, _, _, _, _, hupper⟩ := upperYield_kept s p x
  rw [yieldSteps_rp, offsetYield_of_line (by rw [hupper]; exact hfit) (by rw [hupper]; exact hrp)
    (by rw [hupper]; exact hm) (by rw [hupper]; exact hb)]
  split_ifs
  · rw [foundYield_eval]
    rfl
  · rfl
  · rw [hupper]
    exact hrp

theorem yieldSteps_rp_of_not_valid (h : s.eval.fit ≠ .valid ∨ s.eval.rp ≠ none) :
    (s.yieldSteps p x).eval.rp = s.eval.rp := by
  obtain ⟨_, _, _, _, _, _, _, hupper⟩ := upperYield_kept s p x
  rw [yieldSteps_rp, offsetYield_of_not_valid (by rw [hupper]; exact h), hupper]

/-! ### Necking outside ELASTIC (R172) -/

/-- In DISCONTINUOUS the plateau is taken, and then necking; in HARDENING necking alone. -/
theorem yieldSteps_of_not_elastic (h : s.eval.phase ≠ .elastic) (p : Program) (x : Point) : ∃ rp,
    s.yieldSteps p x = ((s.onEval fun e => { e with rp := rp }).plateauStep p x).neckingStep p x := by
  obtain ⟨rp, hrp⟩ := laterSteps_of_not_elastic h p x
  exact ⟨rp, by rw [State.yieldSteps, upperYield_of_not_elastic h, hrp]⟩

theorem plateauStep_fmax (s : State) (p : Program) (x : Point) : (s.plateauStep p x).eval.fmax = s.eval.fmax := by
  obtain ⟨_, _, _, _, hplateau⟩ := plateauStep_kept s p x
  rw [hplateau]

/-- The phase that the plateau leaves to necking. -/
theorem plateauStep_ready (h : s.eval.phase = .discontinuous ∨ s.eval.phase = .hardening) (p : Program) (x : Point) :
    (s.plateauStep p x).eval.phase = .discontinuous ∨ (s.plateauStep p x).eval.phase = .hardening := by
  rcases h with h | h
  · exact plateauStep_phase h p x
  · rw [plateauStep_of_not_discontinuous (by rw [h]; decide)]
    exact .inr h

/-- Necking is found in DISCONTINUOUS and HARDENING at the threshold below the maximum, and only there. -/
theorem yieldSteps_necking {m : Int} (h : s.eval.phase = .discontinuous ∨ s.eval.phase = .hardening)
    (hm : s.eval.fmax = some m) :
    let t := s.yieldSteps p x
    (fallenBelow p x m → t.eval.phase = .necking ∧ .fmaxPassed ∈ t.mail ∧ .necking ∈ t.mail ∧
      t.events.record .fmaxPassed = some (s.events.oneMore .fmaxPassed s.clock (signed32 (roundDiv m 1000)) .info)) ∧
    (¬fallenBelow p x m → t.eval.phase ≠ .necking ∧
      t.events.record .fmaxPassed = s.events.record .fmaxPassed ∧
      (s.eval.phase = .hardening → t.eval.phase = .hardening)) := by
  obtain ⟨rp, hrp⟩ := yieldSteps_of_not_elastic (s := s) (by rcases h with h | h <;> rw [h] <;> decide) p x
  let u : State := s.onEval fun e => { e with rp := rp }
  have hready := plateauStep_ready (s := u) h p x
  have hmax : (u.plateauStep p x).eval.fmax = some m := (plateauStep_fmax u p x).trans hm
  have hclock : (u.plateauStep p x).clock = s.clock := by
    rw [State.plateauStep]
    split <;> rfl
  dsimp only
  rw [hrp]
  refine ⟨fun hfall => ?_, fun hfall => ?_⟩
  · rw [neckingStep_of_fallen hready hmax hfall, necked_mail, necked_eval, necked_record_self, plateauStep_events, hclock]
    exact ⟨rfl, by simp, by simp, rfl⟩
  · rw [neckingStep_of_not_fallen hmax hfall, plateauStep_events]
    refine ⟨?_, rfl, fun hh => ?_⟩
    · rcases hready with hp | hp <;> rw [hp] <;> decide
    · rw [plateauStep_of_not_discontinuous (s := u) (by rw [show u.eval.phase = _ from hh]; decide)]
      exact hh

/-! ### The plateau at a point in DISCONTINUOUS (R168, R169) -/

/-- The plateau's outcome, and necking of it. -/
theorem yieldSteps_of_discontinuous {m : Int} (h : s.eval.phase = .discontinuous) (hm : s.eval.fmax = some m)
    (p : Program) (x : Point) : ∃ rp,
    let q := { s.eval with rp := rp }.plateauAt p.margin x
    (fallenBelow p x m → (s.yieldSteps p x).eval = q.neck) ∧ (¬fallenBelow p x m → (s.yieldSteps p x).eval = q) := by
  obtain ⟨rp, hrp⟩ := yieldSteps_of_not_elastic (s := s) (by rw [h]; decide) p x
  let u : State := s.onEval fun e => { e with rp := rp }
  have hready := plateauStep_phase (s := u) h p x
  have hmax : (u.plateauStep p x).eval.fmax = some m := (plateauStep_fmax u p x).trans hm
  have hq : (u.plateauStep p x).eval = { s.eval with rp := rp }.plateauAt p.margin x :=
    congrArg State.eval (if_pos (c := u.eval.phase = .discontinuous) h)
  refine ⟨rp, fun hfall => ?_, fun hfall => ?_⟩
  · rw [hrp, neckingStep_of_fallen hready hmax hfall, necked_eval, hq]
  · rw [hrp, neckingStep_of_not_fallen hmax hfall, hq]

section
variable {q t : Evaluation} {fallen : Prop} (hneck : fallen → t = q.neck) (hkeep : ¬fallen → t = q)
include hneck hkeep

theorem plateau_values : t.reL = q.reL ∧ t.ae = q.ae := by
  by_cases h : fallen
  · rw [hneck h]
    exact ⟨rfl, rfl⟩
  · rw [hkeep h]
    exact ⟨rfl, rfl⟩

/-- A plateau that has ended or was cut short stays so. -/
theorem plateau_of_hardening (hq : q.phase = .hardening) : t.plateau = q.plateau ∧ t.phase ≠ .discontinuous := by
  have hno : q.phase ≠ .discontinuous := by rw [hq]; decide
  by_cases h : fallen
  · rw [hneck h]
    exact ⟨if_neg hno, nofun⟩
  · rw [hkeep h]
    exact ⟨rfl, hno⟩

/-- A plateau that goes on is cut short by necking alone. -/
theorem plateau_of_discontinuous (hq : q.phase = .discontinuous) :
    (fallen → t.plateau = .cutShort) ∧ (¬fallen → t.plateau = q.plateau ∧ t.phase = .discontinuous) := by
  refine ⟨fun h => ?_, fun h => ?_⟩
  · rw [hneck h]
    exact if_pos hq
  · rw [hkeep h]
    exact ⟨rfl, hq⟩

end

end

end Sys2Proof.Machine
end

section
/-! Yield and necking at a test point that does not close the fit (spec/09 sections 9.5 to 9.8). -/

namespace Sys2Proof.Machine

/-- The maximum force with a point's own force taken in. -/
def topForce (fmax : Option Int) (f : Int) : Int :=
  match fmax with
  | some m => max m f
  | none => f

theorem raiseMax_kept (e : Evaluation) (x : Point) :
    ∃ agt, e.raiseMax x = { e with fmax := some (topForce e.fmax x.f), agt := agt } := by
  unfold Evaluation.raiseMax topForce
  cases hm : e.fmax with
  | none => exact ⟨_, rfl⟩
  | some m =>
    by_cases h : m < x.f
    · refine ⟨some x.eps, ?_⟩
      rw [if_pos (by simpa using h)]
      simp only [max_eq_right h.le]
    · refine ⟨e.agt, ?_⟩
      rw [if_neg (by simpa using h)]
      simp only [max_eq_left (not_lt.1 h), ← hm]

/-- A point that does not close the fit leaves yield, phase and fit to the steps after it. -/
theorem fitStep_of_not_closing {s : State} {x : Point}
    (h : ¬(s.eval.phase = .elastic ∧ s.eval.fit = .opened ∧ x.held = false ∧ s.eval.fHi < x.f)) :
    ∃ n sumE sumF sumEE sumEF overflow, s.fitStep x = s.onEval fun e => { e with
      n := n, sumE := sumE, sumF := sumF, sumEE := sumEE, sumEF := sumEF, overflow := overflow } := by
  have hself : ∃ n sumE sumF sumEE sumEF overflow, s = s.onEval fun e => { e with
      n := n, sumE := sumE, sumF := sumF, sumEE := sumEE, sumEF := sumEF, overflow := overflow } :=
    ⟨s.eval.n, s.eval.sumE, s.eval.sumF, s.eval.sumEE, s.eval.sumEF, s.eval.overflow, rfl⟩
  by_cases hel : s.eval.phase = .elastic ∧ s.eval.fit = .opened ∧ x.held = false
  · obtain ⟨hphase, hfit, hheld⟩ := hel
    have hhi : x.f ≤ s.eval.fHi := not_lt.1 fun hhi => h ⟨hphase, hfit, hheld, hhi⟩
    by_cases hlo : s.eval.fLo ≤ x.f
    · rw [fitStep_of_window ⟨hphase, hfit, hheld⟩ hlo hhi, State.onEval, Evaluation.addPoint]
      split
      · exact hself
      · split <;> exact ⟨_, _, _, _, _, _, rfl⟩
    · rw [fitStep_of_below (not_le.1 hlo) hhi]
      exact hself
  · rw [fitStep_of_not_elastic hel]
    exact hself

/-- The state that the yield and necking steps find at such a point. -/
theorem pointTaken_fitStep {s : State} {x : Point} {rest : List Point}
    (h : ¬(s.eval.phase = .elastic ∧ s.eval.fit = .opened ∧ x.held = false ∧ s.eval.fHi < x.f)) :
    ∃ n sumE sumF sumEE sumEF overflow energy prevD agt, (s.pointTaken x rest).fitStep x = { s with
      points := { s.points with evaluation := rest }
      eval := { s.eval with
        n := n, sumE := sumE, sumF := sumF, sumEE := sumEE, sumEF := sumEF, overflow := overflow, energy := energy,
        prevD := prevD, fmax := some (topForce s.eval.fmax x.f), agt := agt } } := by
  obtain ⟨agt, hmax⟩ := raiseMax_kept (s.eval.addEnergy x) x
  have htaken : s.pointTaken x rest = { s with
      points := { s.points with evaluation := rest }
      eval := { s.eval.addEnergy x with fmax := some (topForce s.eval.fmax x.f), agt := agt } } := by
    rw [State.pointTaken, State.onEval, onPoints_eval, hmax]
    rfl
  rw [htaken]
  obtain ⟨n, sumE, sumF, sumEE, sumEF, overflow, hfit⟩ := fitStep_of_not_closing (s := { s with
      points := { s.points with evaluation := rest }
      eval := { s.eval.addEnergy x with fmax := some (topForce s.eval.fmax x.f), agt := agt } }) (x := x) h
  rw [hfit]
  exact ⟨_, _, _, _, _, _, _, _, _, rfl⟩

/-- A point above every candidate before is itself the candidate. -/
theorem track_of_higher {e : Evaluation} {x : Point} (h : ∀ c, e.tracking = some c → c.peak < x.f) {c : Candidate}
    (hc : (e.track x).tracking = some c) : c.peak = x.f := by
  cases htr : e.tracking with
  | some c0 =>
    rw [track_of_some htr, if_pos (h c0 htr)] at hc
    cases hc
    rfl
  | none =>
    rw [Evaluation.track, htr] at hc
    dsimp only at hc
    split at hc
    · cases hc
      rfl
    · rw [htr] at hc
      cases hc

/-- A point no higher than the candidate leaves it. -/
theorem track_of_not_higher {e : Evaluation} {x : Point} {c : Candidate} (hc : e.tracking = some c) (h : x.f ≤ c.peak) :
    (e.track x).tracking = some c := (track_of_some hc).trans (congrArg some (if_neg (not_lt.2 h)))

/-- A fresh candidate has not dropped. -/
theorem not_droppedBelow_self {p : Program} {x : Point} (hpos : 0 < x.f) (hf : fits 32 x.f = true) (hlow : 1 ≤ p.yieldDrop)
    (hhigh : p.yieldDrop ≤ 50) : ¬ droppedBelow p x x.f := by
  have hthousand := form64_mul (b := 1000) (B := 1000) (abs_le_of_fits32 hf) (by norm_num) (by norm_num)
  have hdrop := form64_mul (b := 1000 - p.yieldDrop) (B := 1000) (abs_le_of_fits32 hf)
    (abs_le.2 ⟨by omega, by omega⟩) (by norm_num)
  rw [droppedBelow, hthousand, hdrop, not_le]
  exact mul_lt_mul_of_pos_left (by omega) hpos

/-- Settles O43: yield, plateau and necking, each from the state that the fit leaves. -/
theorem evaluationFindsYieldAndNecking : Obligations.EvaluationFindsYieldAndNecking := by
  intro s x rest p hx hp hin hcap hopen climbed fallen top here line
  obtain ⟨n, sumE, sumF, sumEE, sumEF, overflow, energy, prevD, agt, hfitted⟩ := pointTaken_fitStep (rest := rest) hopen
  let r : State := { s with
      points := { s.points with evaluation := rest }
      eval := { s.eval with
        n := n, sumE := sumE, sumF := sumF, sumEE := sumEE, sumEF := sumEF, overflow := overflow, energy := energy,
        prevD := prevD, fmax := some top, agt := agt } }
  have hr : (s.pointTaken x rest).fitStep x = r := hfitted
  have hexec : exec .evaluationTestPoint s = .next (r.yieldSteps p x).transmit := by
    rw [exec_evaluationTestPoint hx hin hp, hcap, hr]
    rfl
  have hmax : r.eval.fmax = some top := rfl
  have hundropped (c : Candidate) (htr : s.eval.tracking = some c) (hle : x.f ≤ c.peak)
      (hdrop : form64 (c.peak * (1000 - p.yieldDrop)) < form64 (x.f * 1000)) (c' : Candidate)
      (hc' : (r.eval.track x).tracking = some c') : ¬ droppedBelow p x c'.peak := by
    rw [track_of_not_higher (e := r.eval) htr hle] at hc'
    cases hc'
    exact not_le.2 hdrop
  refine ⟨_, hexec, ?_, ?_, ?_, ?_, ?_, ?_, ?_, ?_, ?_, ?_, ?_, ?_, ?_, ?_⟩
  · obtain ⟨e, v, l, m, ht⟩ := (evaluated_yieldSteps r p x).trans (evaluated_transmit _)
    rw [ht]
  · intro hel htr hopened
    exact (yieldSteps_tracking (s := r) hel).trans (track_of_none htr hopened)
  · intro hel htr hfit hhi
    rw [yieldSteps_of_untracked (s := r) hel htr hfit hhi]
    exact ⟨htr, hel, rfl⟩
  · intro c hel htr
    exact (yieldSteps_tracking (s := r) hel).trans (track_of_some htr)
  · intro hel hfresh hpos hf hlow hhigh
    refine yieldSteps_of_no_drop (s := r) hel fun c hc => ?_
    rw [track_of_higher (e := r.eval) hfresh hc]
    exact not_droppedBelow_self hpos hf hlow hhigh
  · intro c hel htr hle hdrop
    exact yieldSteps_of_drop (s := r) hel (track_of_not_higher (e := r.eval) htr hle) hdrop
  · intro c hel htr hle hdrop
    exact yieldSteps_of_no_drop (s := r) hel (hundropped c htr hle hdrop)
  · intro c m k hel htr hle hdrop hfit hrp hm hk hline
    exact yieldSteps_of_offset (s := r) hel (hundropped c htr hle hdrop) hfit hrp hm hk hline
  · intro m k hfit hrp hm hk
    exact yieldSteps_rp_of_line (s := r) hfit hrp hm hk
  · intro h
    exact yieldSteps_rp_of_not_valid (s := r) h
  · intro h
    have hout : r.eval.phase ≠ .elastic := by rcases h with h | h | h <;> exact h ▸ nofun
    obtain ⟨hpath, -, hrecord, hmail⟩ := laterSteps_outside hout p x
    have hsteps : r.yieldSteps p x = ((r.offsetYield p x).plateauStep p x).neckingStep p x := by
      rw [State.yieldSteps, upperYield_of_not_elastic hout]
    rw [hsteps]
    exact ⟨hpath, hrecord, hmail⟩
  · intro g start hd hg hstart ends goesOn
    obtain ⟨rp, hneck, hkeep⟩ := yieldSteps_of_discontinuous (s := r) hd hmax p x
    obtain ⟨hreL, hae⟩ := plateau_values hneck hkeep
    let e : Evaluation := { r.eval with rp := rp }
    have hends (he : ∃ a, e.plateauAt p.margin x = { e with
        ae := some (x.eps - start), plateau := .ended, phase := .hardening, reL := a }) : ends := by
      obtain ⟨a, he⟩ := he
      have hhard : (e.plateauAt p.margin x).phase = .hardening := by rw [he]
      obtain ⟨hplateau, hphase⟩ := plateau_of_hardening hneck hkeep hhard
      refine ⟨hae.trans ?_, hplateau.trans ?_, hphase⟩
      · exact (congrArg Evaluation.ae he :)
      · exact (congrArg Evaluation.plateau he :)
    have hgoes (he : ∃ a, e.plateauAt p.margin x = { e with reL := a }) : goesOn := by
      obtain ⟨a, he⟩ := he
      have hdisc : (e.plateauAt p.margin x).phase = .discontinuous := (congrArg Evaluation.phase he).trans hd
      obtain ⟨hcut, hstay⟩ := plateau_of_discontinuous hneck hkeep hdisc
      refine ⟨hae.trans (congrArg Evaluation.ae he :), hcut, fun hno => ?_⟩
      exact ⟨(hstay hno).1.trans (congrArg Evaluation.plateau he :), (hstay hno).2⟩
    have hended (r' : Int) (e' : Evaluation) (he' : e' = { e with reL := some r' })
        (hat : e.plateauAt p.margin x = e'.endPlateau p.margin x) :
        (e.plateauAt p.margin x).reL = some r' ∧ (climbed r' → ends) ∧ (¬climbed r' → goesOn) := by
      subst he'
      by_cases hc : climbed r'
      · have hend := hat.trans (endPlateau_of_climbed (e := { e with reL := some r' }) hd rfl hstart hc)
        exact ⟨(congrArg Evaluation.reL hend :), fun _ => hends ⟨_, hend⟩, fun hno => absurd hc hno⟩
      · have hend := hat.trans (endPlateau_of_not_climbed (e := { e with reL := some r' }) rfl hc)
        exact ⟨(congrArg Evaluation.reL hend :), fun hyes => absurd hyes hc, fun _ => hgoes ⟨_, hend⟩⟩
    have hself (r' : Int) (hr' : s.eval.reL = some r') : e = { e with reL := some r' } := by rw [← hr']
    refine ⟨fun hguard => ?_, fun h hguard hnone hh => ⟨fun hlow => ?_, fun hhigh => ?_⟩,
      fun r' hguard hr' => ⟨fun hlow => ?_, fun hhigh => ?_⟩⟩
    · have hat := plateauAt_of_guarded (e := e) (margin := p.margin) hg hguard
      cases hr' : s.eval.reL with
      | none =>
        have hstay := hat.trans (endPlateau_of_none hr')
        exact ⟨hreL.trans ((congrArg Evaluation.reL hstay :).trans hr'), fun _ => hgoes ⟨e.reL, hstay⟩, nofun⟩
      | some r' =>
        obtain ⟨hr, hclimb⟩ := hended r' e (hself r' hr') hat
        refine ⟨hreL.trans hr, nofun, fun r'' hr'' => ?_⟩
        cases hr''
        exact hclimb
    · obtain ⟨hr, hclimb⟩ := hended x.f _ rfl (plateauAt_of_first (e := e) hg hguard hnone hh hlow)
      exact ⟨hreL.trans hr, hclimb⟩
    · have hat := plateauAt_of_high (e := e) (margin := p.margin) hg hguard hnone hh hhigh
      obtain ⟨hplateau, hphase⟩ := plateau_of_hardening hneck hkeep (congrArg Evaluation.phase hat :)
      exact ⟨hreL.trans ((congrArg Evaluation.reL hat :).trans hnone), hae.trans (congrArg Evaluation.ae hat :),
        hplateau.trans (congrArg Evaluation.plateau hat :), hphase⟩
    · have hat := plateauAt_of_lower (e := e) (margin := p.margin) hg hguard hr' hlow
      exact ⟨hreL.trans (congrArg Evaluation.reL hat :), hgoes ⟨_, hat⟩⟩
    · obtain ⟨hr, hclimb⟩ := hended r' e (hself r' hr') (plateauAt_of_above (e := e) hg hguard hr' hhigh)
      exact ⟨hreL.trans hr, hclimb⟩
  · intro h
    exact yieldSteps_necking (s := r) h hmax
  · intro h
    have hother : r.eval.phase ≠ .elastic ∧ r.eval.phase ≠ .discontinuous ∧ r.eval.phase ≠ .hardening := by
      rcases h with h | h <;> exact h ▸ ⟨nofun, nofun, nofun⟩
    obtain ⟨helastic, hdisc, hhard⟩ := hother
    obtain ⟨rp, hrp⟩ := yieldSteps_of_not_elastic helastic p x
    let u : State := r.onEval fun e => { e with rp := rp }
    rw [hrp, plateauStep_of_not_discontinuous (s := u) hdisc, neckingStep_of_other (s := u) hdisc hhard]
    rfl

end Sys2Proof.Machine
end

section
/-! The cabinet inputs' events at power-on and RESET (spec/01 sections 1.6 and 1.10). -/

namespace Sys2Proof.Machine

/-! ### Raising the asserted inputs (R14 to R16) -/

section
variable {s : State}

/-- A condition enters the frame: not in UNDEFINED (R14, R15). -/
def Frame.entered (f : Frame) (time : Word32) (c : EventKind × Word32) : Frame :=
  if f.state = .undefined then f else f.enterFault c.1 c.2 time

theorem entered_not_inTest {f : Frame} (h : f.state.inTest = false) (time : Word32) (c : EventKind × Word32) :
    (f.entered time c).state.inTest = false := by
  unfold Frame.entered
  split
  · exact h
  · rfl

theorem record_onFrame (g : Frame → Frame) (k : EventKind) (d : Word32) (c : EventClass) :
    (s.onFrame g).record k d c = (s.record k d c).onFrame g := by
  rw [record_eq, record_eq]
  simp only [onFrame_events]
  split
  · rfl
  · split_ifs <;> rfl

theorem raise_frameFault_of_not_inTest {k : EventKind} (h : s.inTest = false) (hk : s.classOf k = .frameFault) (d : Word32) :
    s.raise k d = (s.record k d .frameFault).onFrame (·.entered s.clock (k, d)) := by
  have hno : ¬(s.frame.state = .testing ∨ s.frame.state = .held) := by
    rw [← inTest_iff, h]
    exact Bool.false_ne_true
  rw [raise_of_fault_eq s k d hk, if_neg hno]
  by_cases hu : s.frame.state = .undefined
  · rw [if_pos hu, State.onFrame, Frame.entered, record_frame, if_pos hu, ← record_frame s k d .frameFault]
  · rw [if_neg hu, State.onFrame, State.onFrame, Frame.entered, record_frame, if_neg hu]

/-- Several such conditions outside a test: each is recorded, and each enters the frame. -/
theorem foldl_raise_frameFault (causes : List (EventKind × Word32)) (h : s.inTest = false)
    (hk : ∀ c ∈ causes, ∀ t : State, t.classOf c.1 = .frameFault) :
    causes.foldl (fun t c => t.raise c.1 c.2) s =
      (causes.foldl (fun t c => t.record c.1 c.2 .frameFault) s).onFrame fun f =>
        causes.foldl (fun f c => f.entered s.clock c) f := by
  induction causes generalizing s with
  | nil => rfl
  | cons c rest ih =>
    have hin : ((s.record c.1 c.2 .frameFault).onFrame (·.entered s.clock (c.1, c.2))).inTest = false :=
      entered_not_inTest (by rw [record_frame]; exact h) _ _
    have hclock : ((s.record c.1 c.2 .frameFault).onFrame (·.entered s.clock (c.1, c.2))).clock = s.clock := record_clock ..
    have hcommute (l : List (EventKind × Word32)) (u : State) (g : Frame → Frame) :
        l.foldl (fun t c => t.record c.1 c.2 .frameFault) (u.onFrame g) =
          (l.foldl (fun t c => t.record c.1 c.2 .frameFault) u).onFrame g := by
      induction l generalizing u with
      | nil => rfl
      | cons y l il => rw [List.foldl_cons, List.foldl_cons, record_onFrame, il]
    rw [List.foldl_cons, raise_frameFault_of_not_inTest h (hk c List.mem_cons_self s),
      ih hin fun c hc => hk c (List.mem_cons_of_mem _ hc), hclock, hcommute]
    rfl

/-- The kinds of the asserted inputs. -/
def cabinetKinds (i : Inputs) : List EventKind :=
  (if i.estop then [.estop] else []) ++ (if i.upper || i.lower then [.limitSwitch] else [])

/-- The records of the asserted inputs, in a table without any. -/
def cabinetRecord (i : Inputs) (time : Word32) : EventKind → Option Occurred
  | .estop => if i.estop then some { count := 1, time := time, detail := 0, cls := .frameFault } else none
  | .limitSwitch =>
    if i.upper || i.lower then
      some { count := if i.upper && i.lower then 2 else 1, time := time, detail := if i.upper then 1 else 2, cls := .frameFault }
    else none
  | _ => none

theorem record_of_pending {k : EventKind} {r : Occurred} (h : s.events.record k = some r) (d : Word32) (c : EventClass) :
    (s.record k d c).link = s.link := by
  rw [record_eq, h]

theorem record_fault_of_not_pending {k : EventKind} (h : s.events.record k = none) (d : Word32) :
    (s.record k d .frameFault).link = { s.link with eventQueue := s.link.eventQueue ++ [k] } := by
  rw [record_eq, h]
  simp

/-- A fault that is not pending: its record and its frame. -/
theorem record_fault_first {k : EventKind} (h : s.events.record k = none) (d : Word32) :
    (s.record k d .frameFault).events.record k = some { count := 1, time := s.clock, detail := d, cls := .frameFault } := by
  rw [record_record_self, Events.oneMore, h]

theorem record_fault_second {k : EventKind} {r : Occurred} (h : s.events.record k = some r) (d : Word32) :
    (s.record k d .frameFault).events.record k = some { r with count := min 255 (r.count + 1) } := by
  rw [record_record_self, Events.oneMore, h]

/-- The two limit switches, recorded where no LIMIT_SWITCH is pending. -/
theorem record_limitSwitches (h : s.events.record .limitSwitch = none) (upper lower : Bool) :
    let t := ((if upper = true then [(EventKind.limitSwitch, (1 : Word32))] else []) ++
      if lower = true then [(EventKind.limitSwitch, (2 : Word32))] else []).foldl (fun t c => t.record c.1 c.2 .frameFault) s
    (∀ k, k ≠ .limitSwitch → t.events.record k = s.events.record k) ∧
    t.events.record .limitSwitch = (if upper || lower then
      some { count := if upper && lower then 2 else 1, time := s.clock, detail := if upper then 1 else 2, cls := .frameFault }
      else none) ∧
    t.link = { s.link with eventQueue := s.link.eventQueue ++ if upper || lower then [.limitSwitch] else [] } := by
  have hfirst (d : Word32) := record_fault_first h d
  have hlink (d : Word32) := record_fault_of_not_pending h d
  have hkept (t : State) (d : Word32) {k : EventKind} (hk : k ≠ .limitSwitch) :
      (t.record .limitSwitch d .frameFault).events.record k = t.events.record k := record_record_ne t hk d _
  cases upper with
  | false =>
    cases lower with
    | false => exact ⟨fun _ _ => rfl, h, by simp⟩
    | true => exact ⟨fun k hk => hkept s 2 hk, hfirst 2, hlink 2⟩
  | true =>
    cases lower with
    | false => exact ⟨fun k hk => hkept s 1 hk, hfirst 1, hlink 1⟩
    | true =>
      exact ⟨fun k hk => (hkept _ 2 hk).trans (hkept s 1 hk), record_fault_second (hfirst 1) 2,
        (record_of_pending (hfirst 1) 2 _).trans (hlink 1)⟩

/-- The asserted inputs, recorded in a table in which no kind is pending. -/
theorem record_inputCauses (h : ∀ k, s.events.record k = none) (i : Inputs) :
    let t := (inputCauses i).foldl (fun t c => t.record c.1 c.2 .frameFault) s
    (∀ k, t.events.record k = cabinetRecord i s.clock k) ∧
      t.link = { s.link with eventQueue := s.link.eventQueue ++ cabinetKinds i } := by
  have hsplit : inputCauses i = (if i.estop = true then [(EventKind.estop, (0 : Word32))] else []) ++
      ((if i.upper = true then [(EventKind.limitSwitch, (1 : Word32))] else []) ++
        if i.lower = true then [(EventKind.limitSwitch, (2 : Word32))] else []) := List.append_assoc ..
  dsimp only
  rw [hsplit, List.foldl_append]
  cases he : i.estop with
  | false =>
    obtain ⟨hkept, hlimit, hlink⟩ := record_limitSwitches (h .limitSwitch) i.upper i.lower
    refine ⟨fun k => ?_, ?_⟩
    · cases k with
      | limitSwitch => exact hlimit
      | estop => exact (hkept .estop (by decide)).trans ((h _).trans (by simp [cabinetRecord, he]))
      | _ => exact (hkept _ (by decide)).trans (h _)
    · refine hlink.trans ?_
      simp [cabinetKinds, he]
  | true =>
    have hlater : (s.record .estop 0 .frameFault).events.record .limitSwitch = none :=
      (record_record_ne s (by decide) _ _).trans (h _)
    obtain ⟨hkept, hlimit, hlink⟩ := record_limitSwitches hlater i.upper i.lower
    refine ⟨fun k => ?_, ?_⟩
    · cases k with
      | limitSwitch =>
        refine hlimit.trans ?_
        rw [record_clock]
        rfl
      | estop => exact (hkept .estop (by decide)).trans ((record_fault_first (h _) 0).trans (by simp [cabinetRecord, he]))
      | _ => exact (hkept _ (by decide)).trans ((record_record_ne s (by decide) _ _).trans (h _))
    · refine hlink.trans ?_
      rw [record_fault_of_not_pending (h _)]
      simp [cabinetKinds, he]

/-- The frame of the asserted inputs: FAULTED with their record, but not in UNDEFINED (R14, R15). -/
theorem foldl_entered_inputCauses {f : Frame} (i : Inputs) (time : Word32) (hf : f.state ≠ .undefined)
    (hs : f.state ≠ .faulted) (hi : i.estop = true ∨ i.upper = true ∨ i.lower = true) :
    (inputCauses i).foldl (fun f c => f.entered time c) f = { f with
      state := .faulted, driveTimer := none, move := none
      firstCause := some (if i.estop then { kind := .estop, detail := 0, time := time }
        else { kind := .limitSwitch, detail := if i.upper then 1 else 2, time := time })
      causeSet := cabinetKinds i } := by
  have hfirst (c : EventKind × Word32) : f.entered time c = { f with
      state := .faulted, driveTimer := none, move := none
      firstCause := some { kind := c.1, detail := c.2, time := time }, causeSet := [c.1] } := by
    rw [Frame.entered, if_neg hf, Frame.enterFault, if_neg hs, if_neg hs]
  unfold inputCauses cabinetKinds
  cases he : i.estop <;> cases hu : i.upper <;> cases hl : i.lower
  · simp [he, hu, hl] at hi
  all_goals
    simp only [List.foldl_append, if_true, if_false, Bool.false_eq_true, List.foldl_cons, List.foldl_nil, hfirst]
    rfl

theorem foldl_entered_undefined {f : Frame} (causes : List (EventKind × Word32)) (time : Word32)
    (hf : f.state = .undefined) : causes.foldl (fun f c => f.entered time c) f = f := by
  induction causes with
  | nil => rfl
  | cons c rest ih => rw [List.foldl_cons, Frame.entered, if_pos hf, ih]

theorem foldl_record_settings (causes : List (EventKind × Word32)) (s : State) :
    (causes.foldl (fun t c => t.record c.1 c.2 .frameFault) s).events.enabled = s.events.enabled ∧
      (causes.foldl (fun t c => t.record c.1 c.2 .frameFault) s).events.severities = s.events.severities := by
  induction causes generalizing s with
  | nil => exact ⟨rfl, rfl⟩
  | cons c rest ih =>
    obtain ⟨henabled, hseverities⟩ := ih (s.record c.1 c.2 .frameFault)
    exact ⟨henabled.trans (record_enabled ..), hseverities.trans (record_severities ..)⟩

/-- What raising the asserted inputs leaves where no kind is pending and no test in progress. -/
theorem raiseCabinet_eq (hin : s.inTest = false) (h : ∀ k, s.events.record k = none) :
    ∃ e, (∀ k, e.record k = cabinetRecord s.inputs s.clock k) ∧
      e.enabled = s.events.enabled ∧ e.severities = s.events.severities ∧
      s.raiseCabinet = { s with
        frame := (inputCauses s.inputs).foldl (fun f c => f.entered s.clock c) s.frame
        events := e, link := { s.link with eventQueue := s.link.eventQueue ++ cabinetKinds s.inputs } } := by
  have hk : ∀ c ∈ inputCauses s.inputs, ∀ t : State, t.classOf c.1 = .frameFault := by
    intro c hc t
    have hkind : c.1 = .estop ∨ c.1 = .limitSwitch := by
      unfold inputCauses at hc
      simp only [List.mem_append] at hc
      rcases hc with (hc | hc) | hc <;> split at hc <;> simp_all
    rcases hkind with hkind | hkind <;> rw [hkind] <;> rfl
  obtain ⟨hrecord, hlink⟩ := record_inputCauses h s.inputs
  obtain ⟨henabled, hseverities⟩ := foldl_record_settings (inputCauses s.inputs) s
  obtain ⟨e, q, ht, -, -⟩ := foldl_record_eq (inputCauses s.inputs) (·.1) (·.2) (fun _ => .frameFault) s
  rw [ht] at hrecord hlink henabled hseverities
  refine ⟨e, hrecord, henabled, hseverities, ?_⟩
  have hqueue : q = s.link.eventQueue ++ cabinetKinds s.inputs := congrArg Link.eventQueue hlink
  rw [State.raiseCabinet, foldl_raise_frameFault _ hin hk, ht, hqueue]
  rfl

end

end Sys2Proof.Machine
end

section
/-! Settling POWER_ON (spec/01 section 1.10). -/

namespace Sys2Proof.Machine

theorem initial_record (k : EventKind) : Events.initial.record k = none := by
  cases k <;> rfl

theorem cabinetRecord_isSome (i : Inputs) (time : Word32) (k : EventKind) :
    (cabinetRecord i time k).isSome =
      (decide (k = .estop) && i.estop || decide (k = .limitSwitch) && (i.upper || i.lower)) := by
  cases k with
  | estop => cases h : i.estop <;> simp [cabinetRecord, h]
  | limitSwitch =>
    cases h : i.upper || i.lower with
    | false => simp [cabinetRecord, h]
    | true => simp [cabinetRecord, h]
  | _ => rfl

/-- A host that is ready is sent the first event frame at once (log 12). -/
theorem arbitrate_events (ready : Bool) (e : Events) (kinds : List EventKind) :
    { Link.initial with eventQueue := kinds }.arbitrate ready e =
      { Link.initial with eventQueue := if ready then kinds.drop 1 else kinds,
                          tx := if ready then kinds.head?.map e.frameOf else none } := by
  cases ready with
  | false => exact arbitrate_of_not_ready (by simp)
  | true =>
    cases kinds with
    | nil => exact Link.arbitrate_of_nothing rfl rfl rfl
    | cons k rest => exact Link.arbitrate_of_event rfl rfl rfl

/-- POWER_ON: the power-on values, with the asserted inputs recorded and their frames queued. -/
theorem exec_powerOn (levels : Inputs) (s : State) :
    ∃ e : Events, (∀ k, e.record k = cabinetRecord levels 0 k) ∧ e.enabled = Events.initial.enabled ∧
      e.severities = Events.initial.severities ∧
      exec (.powerOn levels) s = .next { State.atPowerOn levels s.pending with
        events := e
        link := { Link.initial with
          eventQueue := if levels.hostReady then (cabinetKinds levels).drop 1 else cabinetKinds levels
          tx := if levels.hostReady then (cabinetKinds levels).head?.map e.frameOf else none } } := by
  obtain ⟨e, hrecord, henabled, hseverities, hraised⟩ :=
    raiseCabinet_eq (s := State.atPowerOn levels s.pending) rfl initial_record
  refine ⟨e, hrecord, henabled, hseverities, ?_⟩
  rw [foldl_entered_undefined _ _ rfl] at hraised
  change (State.atPowerOn levels s.pending).raiseCabinet.done = _
  rw [hraised, State.done, State.transmit, State.onLink]
  refine congrArg Host.Outcome.next ?_
  rw [← arbitrate_events]
  rfl

/-- Settles O2: each block at its power-on values, and the events of the asserted inputs. -/
theorem powerOnLeavesTheResetValues : Obligations.PowerOnLeavesTheResetValues := by
  intro levels s raised
  obtain ⟨e, hrecord, henabled, hseverities, hexec⟩ := exec_powerOn levels s
  have hisSome (k : EventKind) := (congrArg Option.isSome (hrecord k)).trans (cabinetRecord_isSome levels 0 k)
  have hestop : levels.estop = true → e.record .estop = some { count := 1, time := 0, detail := 0, cls := .frameFault } :=
    fun h => (hrecord .estop).trans (if_pos h)
  have hlimit : levels.upper = true ∨ levels.lower = true → e.record .limitSwitch = some {
      count := if levels.upper && levels.lower then 2 else 1, time := 0, detail := if levels.upper then 1 else 2,
      cls := .frameFault } :=
    fun h => (hrecord .limitSwitch).trans (if_pos (by simpa using h))
  refine ⟨_, hexec, rfl, rfl, rfl, ?_, ?_, rfl, rfl, ?_, ?_, rfl, ⟨rfl, rfl⟩, rfl, rfl, rfl, rfl, hisSome, hestop, hlimit,
    ⟨rfl, rfl⟩, henabled, hseverities, ?_, rfl⟩
  · exact ⟨rfl, rfl, rfl, rfl, rfl, rfl, rfl, rfl, rfl, rfl, rfl, rfl⟩
  · exact ⟨rfl, rfl, rfl, rfl, rfl, rfl, rfl, rfl, rfl, rfl, rfl, rfl, rfl, rfl, rfl, rfl, rfl, rfl, rfl, rfl, rfl⟩
  · exact ⟨rfl, rfl, rfl, rfl, rfl, rfl, rfl, rfl, rfl, rfl, rfl, rfl, rfl, rfl⟩
  · exact ⟨rfl, rfl, rfl, rfl, rfl, rfl, rfl, rfl, rfl⟩
  · exact ⟨rfl, rfl, rfl, rfl, rfl⟩

end Sys2Proof.Machine
end

section
/-! Settling RESET (spec/08 section 8.6). -/

namespace Sys2Proof.Machine

section
variable (s : State)

/-! ### The end of a test in progress at RESET -/

/-- A test in progress ended with outcome RESET. -/
def State.testReset : State := if s.inTest then s.endTest .reset 0 else s

theorem testReset_inTest : s.testReset.inTest = false := by
  unfold State.testReset
  split
  · rw [State.inTest, endTest_frame]
    exact afterTest_inTest _ _ _ _ nofun
  next h => exact Bool.eq_false_iff.2 h

/-- A property of both outcomes of the test's end. -/
theorem testReset_of {P : State → Prop} (hended : s.inTest = true → P (s.endTest .reset 0)) (hidle : s.inTest = false → P s) :
    P s.testReset := by
  unfold State.testReset
  split
  next h => exact hended h
  next h => exact hidle (Bool.eq_false_iff.2 h)

theorem testReset_alike : s.testReset.inputs = s.inputs ∧ s.testReset.clock = s.clock ∧ s.testReset.force = s.force ∧
    s.testReset.ext = s.ext ∧ s.testReset.strain = s.strain ∧ s.testReset.watches = s.watches ∧
    s.testReset.stream = s.stream ∧ s.testReset.pending = s.pending := by
  unfold State.testReset
  split
  · simp
  · exact ⟨rfl, rfl, rfl, rfl, rfl, rfl, rfl, rfl⟩

theorem testReset_frame : s.testReset.frame.resetRequest = s.frame.resetRequest := by
  refine testReset_of s (P := fun t => t.frame.resetRequest = _) (fun _ => ?_) fun _ => rfl
  rw [endTest_frame]
  rfl

theorem testReset_servo : { s.testReset.servo with override := 100, entry := false } =
    { s.servo with override := 100, entry := false } := by
  refine testReset_of s (P := fun t => { t.servo with override := 100, entry := false } = _) (fun _ => ?_) fun _ => rfl
  rw [endTest_servo]

theorem testReset_hold : { s.testReset.hold with causes := HoldCauses.empty } =
    { s.hold with causes := HoldCauses.empty } := by
  refine testReset_of s (P := fun t => { t.hold with causes := HoldCauses.empty } = _) (fun _ => ?_) fun _ => rfl
  rw [endTest_hold]

theorem testReset_link : { s.testReset.link with eventQueue := [], streamQueue := [] } =
    { s.link with eventQueue := [], streamQueue := [] } := by
  refine testReset_of s (P := fun t => { t.link with eventQueue := [], streamQueue := [] } = _) (fun _ => ?_) fun _ => rfl
  simp

theorem testReset_eval : s.testReset.eval = { s.eval with phase := if s.inTest then .ended else s.eval.phase } := by
  unfold State.testReset
  split
  · exact endTest_eval ..
  · rfl

theorem testReset_seq : { s.testReset.seq with markerMode := .off, marker := false } = { s.seq with
    stage := if s.inTest then none else s.seq.stage, running := if s.inTest then none else s.seq.running
    timer := if s.inTest then .stopped else s.seq.timer, timeMark := !s.inTest && s.seq.timeMark
    yieldMark := !s.inTest && s.seq.yieldMark, fmaxMark := !s.inTest && s.seq.fmaxMark
    markerMode := .off, marker := false } := by
  unfold State.testReset
  cases s.inTest with
  | true =>
    rw [if_pos rfl, endTest_seq]
    rfl
  | false => simp

theorem testReset_settings : s.testReset.events.enabled = s.events.enabled ∧
    s.testReset.events.severities = s.events.severities := by
  unfold State.testReset
  split
  · exact ⟨endTest_enabled .., endTest_severities ..⟩
  · exact ⟨rfl, rfl⟩

/-- The result of a test that RESET ends (R155). -/
theorem testReset_recs (h : s.inTest = true → s.recs.test.isSome = true) :
    (s.inTest = false → s.testReset.recs = s.recs) ∧
    (s.inTest = true → s.testReset.recs.test = none ∧
      ∃ r, s.testReset.recs.results = s.recs.results ++ [r] ∧ r.outcome = .reset ∧ r.detail = 0) := by
  unfold State.testReset
  refine ⟨fun hin => by rw [hin]; rfl, fun hin => ?_⟩
  obtain ⟨t, ht⟩ := Option.isSome_iff_exists.1 (h hin)
  rw [if_pos hin, endTest_recs, ht]
  exact ⟨rfl, s.resultOf t .reset 0, rfl, rfl, rfl⟩

/-- The ends on their way: those of the test that RESET ends, and one that was on its way (log 8). -/
theorem testReset_mail (n : Notice) (h : n = .breakDetectionTestEnd ∨ n = .strainSourceTestEnd) :
    n ∈ s.testReset.mail ↔ s.inTest = true ∨ n ∈ s.mail := by
  unfold State.testReset
  cases s.inTest with
  | true =>
    rw [if_pos rfl, endTest_mail]
    rcases h with rfl | rfl <;> simp
  | false => simp

/-! ### The ends at force channel and strain source (log 8) -/

/-- The break's end is taken where it is on its way. -/
theorem settleEnds_force_of_not_inTest (h : s.inTest = false) : s.settleEnds.force = { s.force with
    armed := !decide (.breakDetectionTestEnd ∈ s.mail) && s.force.armed
    breakFlag := !decide (.breakDetectionTestEnd ∈ s.mail) && s.force.breakFlag } := by
  have hmem : Notice.breakDetectionTestEnd ∈ s.settleStrain.mail ↔ Notice.breakDetectionTestEnd ∈ s.mail := by
    rw [settleStrain_eq]
    exact List.mem_erase_of_ne (by decide)
  unfold State.settleEnds
  simp only [hmem]
  by_cases hm : Notice.breakDetectionTestEnd ∈ s.mail
  · have hin : (s.settleStrain.taken .breakDetectionTestEnd).inTest = false := (settleStrain_inTest s).trans h
    have hforce : (s.settleStrain.taken .breakDetectionTestEnd).force = s.force := settleStrain_force s
    rw [if_pos hm, State.clearBreak, hin, if_neg Bool.false_ne_true, onForce_force, hforce]
    simp [hm]
  · rw [if_neg hm, settleStrain_force]
    simp [hm]

/-- The strain source takes the end of the test that RESET ends, or of one that was on its way. -/
theorem settleEnds_strain_testReset : s.testReset.settleEnds.strain =
    if (s.inTest = true ∨ .strainSourceTestEnd ∈ s.mail) ∧
        (s.strain.state = .following ∨ s.strain.state = .derived ∨ s.strain.state = .removing) then
      { s.strain with
        state := if s.strain.state = .removing then .removing else if s.ext.state = .locked then .fitted else .absent
        zero := none, gauge := none, pendingSwitch := none, ofTest := false }
    else s.strain := by
  obtain ⟨-, -, -, hext, hstrain, -⟩ := testReset_alike s
  rw [settleEnds_strain, settleStrain_eq, hext, hstrain, testReset_inTest]
  simp only [testReset_mail s .strainSourceTestEnd (.inr rfl), true_and]

/-! ### The blocks at RESET -/

/-- What RESET makes of the blocks of a state once its test has ended. -/
def State.resetBlocks (r : State) : State :=
  { r with
    hold := { r.hold with causes := HoldCauses.empty }, recs := { r.recs with queue := [] }
    frame := r.frame.resetRequest, servo := { r.servo with override := 100, entry := false }
    watches := r.watches.map (·.disable), seq := { r.seq with markerMode := .off, marker := false }
    stream := r.stream.resetRequest, strain := { r.strain with pendingSwitch := none, ofTest := false }
    events := r.events.clear 0x7FFFFFFF
    link := { r.link with streamQueue := [], eventQueue := r.link.eventQueue.filter fun k => !k.inSet 0x7FFFFFFF } }

theorem resetModule_eq : s.resetModule = s.testReset.settleEnds.resetBlocks.raiseCabinet := by
  unfold State.resetModule
  change _ = State.raiseCabinet (State.resetBlocks (State.settleEnds (if s.inTest then s.endTest .reset 0 else s)))
  generalize State.settleEnds _ = r
  refine congrArg State.raiseCabinet ?_
  dsimp only [State.onHold, State.onRecs, State.onFrame, State.onServo, State.onWatches, State.onSeq, State.onStream,
    State.onLink, State.onStrain, State.clearKinds, State.onEvents, State.resetBlocks]

theorem inSet_all (k : EventKind) : k.inSet 0x7FFFFFFF = true := by
  cases k <;> rfl

/-- The state in which RESET raises the inputs' events again. -/
theorem resetBlocks_quiet :
    let c := s.testReset.settleEnds.resetBlocks
    c.inputs = s.inputs ∧ c.clock = s.clock ∧ c.inTest = false ∧ (∀ k, c.events.record k = none) ∧
      c.events.enabled = s.events.enabled ∧ c.events.severities = s.events.severities ∧
      c.frame = s.frame.resetRequest ∧ c.link = { s.link with eventQueue := [], streamQueue := [] } := by
  obtain ⟨hinputs, hclock, -⟩ := testReset_alike s
  obtain ⟨henabled, hseverities⟩ := testReset_settings s
  have hevents : s.testReset.settleEnds.events = s.testReset.events := settleEnds_events _
  obtain ⟨hclearEnabled, hclearSeverities⟩ := clear_settings s.testReset.settleEnds.events 0x7FFFFFFF
  rw [hevents] at hclearEnabled hclearSeverities
  have hframe : s.testReset.settleEnds.frame.resetRequest = s.frame.resetRequest := by
    rw [settleEnds_frame, testReset_frame]
  have hlink : s.testReset.settleEnds.resetBlocks.link = { s.link with eventQueue := [], streamQueue := [] } := by
    have hqueue : s.testReset.settleEnds.link.eventQueue.filter (fun k => !k.inSet 0x7FFFFFFF) = [] := by
      refine List.filter_eq_nil_iff.2 fun k _ => ?_
      rw [inSet_all]
      decide
    change { s.testReset.settleEnds.link with
      streamQueue := [], eventQueue := s.testReset.settleEnds.link.eventQueue.filter fun k => !k.inSet 0x7FFFFFFF } = _
    rw [hqueue, settleEnds_link]
    exact testReset_link s
  refine ⟨(settleEnds_inputs _).trans hinputs, (settleEnds_clock _).trans hclock, ?_, fun k => ?_, ?_, ?_, hframe, hlink⟩
  · change s.testReset.settleEnds.frame.resetRequest.state.inTest = false
    rw [Frame.resetRequest]
    dsimp only
    split <;> rfl
  · refine (Events.record_clear _ 0x7FFFFFFF k).trans ?_
    rw [inSet_all]
    rfl
  · exact (congrArg (fun e : Events => (e.clear 0x7FFFFFFF).enabled) hevents).trans (hclearEnabled.trans henabled)
  · exact (congrArg (fun e : Events => (e.clear 0x7FFFFFFF).severities) hevents).trans (hclearSeverities.trans hseverities)

theorem exec_reset {tag : Byte} (hs : s.free) :
    exec (.reset tag) s = .next (s.resetModule.replying 0xBF tag .ok 0 []) :=
  request_perform s .reset hs nofun

end

/-- Settles O28: each block after RESET with released inputs. -/
theorem resetClearsWhatIsNotKept : Obligations.ResetClearsWhatIsNotKept := by
  intro s tag hs he hu hl htest
  have hnone : inputCauses s.inputs = [] := by
    rw [inputCauses, he, hu, hl]
    rfl
  obtain ⟨hinputs, hclock, hin, hrecord, henabled, hseverities, hframe, hlink⟩ := resetBlocks_quiet s
  have hmodule : s.resetModule = s.testReset.settleEnds.resetBlocks := by
    rw [resetModule_eq, State.raiseCabinet, hinputs, hnone]
    rfl
  obtain ⟨-, -, hforce, hext, hstrain, hwatches, hstream, hpending⟩ := testReset_alike s
  obtain ⟨hrecsIdle, hrecsTest⟩ := testReset_recs s htest
  refine ⟨_, exec_reset s hs, ?_⟩
  rw [hmodule]
  let r : State := s.testReset.settleEnds
  have hrecs : r.recs = s.testReset.recs := settleEnds_recs _
  have hservo : r.servo = s.testReset.servo := settleEnds_servo _
  have hseq : r.seq = s.testReset.seq := settleEnds_seq _
  have hhold : r.hold = s.testReset.hold := settleEnds_hold _
  refine ⟨?_, ⟨rfl, fun hidle => ?_, fun hrun => ?_⟩, ?_, ?_, ?_, ?_, ?_, ?_, hrecord, henabled, hseverities, hlink, ?_, ?_, ?_,
    ?_, hinputs, hclock, ?_⟩
  · rw [hframe]
    exact ⟨rfl, rfl, rfl, rfl, rfl, rfl, rfl, rfl, rfl, rfl, rfl⟩
  · change r.recs.results = _ ∧ r.recs.test = _
    rw [hrecs, hrecsIdle hidle]
    exact ⟨rfl, rfl⟩
  · change r.recs.test = none ∧ ∃ x, r.recs.results = _ ∧ _
    rw [hrecs]
    exact hrecsTest hrun
  · change { r.servo with override := 100, entry := false } = _
    rw [hservo]
    exact testReset_servo s
  · exact (settleEnds_eval _).trans (testReset_eval s)
  · change { r.seq with markerMode := .off, marker := false } = _
    rw [hseq]
    exact testReset_seq s
  · intro i hi
    change (r.watches.map (·.disable))[i] = _
    have hw : r.watches = s.watches := (settleEnds_watches _).trans hwatches
    rw [Vector.getElem_map, hw]
    rfl
  · rfl
  · change r.hold.count = _
    rw [hhold]
    exact (congrArg Hold.count (testReset_hold s) :)
  · change r.stream.resetRequest = _
    rw [(settleEnds_stream _).trans hstream]
    rfl
  · refine (settleEnds_force_of_not_inTest _ (testReset_inTest s)).trans ?_
    rw [hforce]
    simp only [testReset_mail s .breakDetectionTestEnd (.inl rfl), Bool.decide_or, Bool.decide_eq_true]
  · have hr : r.strain = if (s.inTest = true ∨ .strainSourceTestEnd ∈ s.mail) ∧
        (s.strain.state = .following ∨ s.strain.state = .derived ∨ s.strain.state = .removing) then
        { s.strain with
          state := if s.strain.state = .removing then .removing else if s.ext.state = .locked then .fitted else .absent
          zero := none, gauge := none, pendingSwitch := none, ofTest := false }
        else s.strain := settleEnds_strain_testReset s
    have hkept : r.strain.heldMean = s.strain.heldMean ∧ r.strain.starvation = s.strain.starvation ∧
        r.strain.k = s.strain.k ∧ r.strain.parallel = s.strain.parallel ∧ r.strain.timer = s.strain.timer := by
      rw [hr]
      split <;> exact ⟨rfl, rfl, rfl, rfl, rfl⟩
    obtain ⟨hmean, hstarvation, hk, hparallel, htimer⟩ := hkept
    refine ⟨rfl, rfl, hmean, hstarvation, hk, hparallel, htimer, fun hst => ?_, fun hst => ?_, fun hrun hst => ?_,
      fun hrun hst => ?_⟩
    · change r.strain.state = _
      by_cases hended : s.inTest = true ∨ .strainSourceTestEnd ∈ s.mail
      · rw [hr, if_pos ⟨hended, .inr (.inr hst)⟩]
        exact if_pos hst
      · rw [hr, if_neg (hended ·.1)]
        exact hst
    · have hno : ¬(s.strain.state = .following ∨ s.strain.state = .derived ∨ s.strain.state = .removing) := by
        rcases hst with h | h | h <;> rw [h] <;> decide
      change r.strain.state = _ ∧ r.strain.zero = _ ∧ r.strain.gauge = _
      rw [hr, if_neg (hno ·.2)]
      exact ⟨rfl, rfl, rfl⟩
    · change r.strain.zero = _ ∧ r.strain.gauge = _
      rw [hr, if_pos ⟨.inl hrun, hst⟩]
      exact ⟨rfl, rfl⟩
    · have hyes : s.strain.state = .following ∨ s.strain.state = .derived ∨ s.strain.state = .removing :=
        hst.imp_right .inl
      have hno : s.strain.state ≠ .removing := by rcases hst with h | h <;> rw [h] <;> decide
      change r.strain.state = _
      rw [hr, if_pos ⟨.inl hrun, hyes⟩]
      exact if_neg hno
  · exact (settleEnds_ext _).trans hext
  · exact (settleEnds_pending _).trans hpending

theorem cabinetRecord_of_not_mem {i : Inputs} {k : EventKind} {time : Word32} (h : k ∉ cabinetKinds i) :
    cabinetRecord i time k = none := by
  cases k with
  | estop => exact if_neg fun he => h (by simp [cabinetKinds, he])
  | limitSwitch => exact if_neg fun hl => h (by simp [cabinetKinds, hl])
  | _ => rfl

/-- Settles O29: the asserted inputs, raised again by RESET. -/
theorem resetRaisesTheAssertedInputsAgain : Obligations.ResetRaisesTheAssertedInputsAgain := by
  intro s tag hs htest hany causes
  obtain ⟨hinputs, hclock, hin, hrecord, -, -, hframe, hlink⟩ := resetBlocks_quiet s
  obtain ⟨hrecsIdle, hrecsTest⟩ := testReset_recs s htest
  have hrecs : s.testReset.settleEnds.recs = s.testReset.recs := settleEnds_recs _
  obtain ⟨e, hrecords, -, -, hraised⟩ := raiseCabinet_eq hin hrecord
  rw [hinputs, hclock, hframe, hlink, ← resetModule_eq] at hraised
  rw [hinputs, hclock] at hrecords
  refine ⟨_, exec_reset s hs, ?_⟩
  rw [hraised]
  refine ⟨fun hcommitted => ?_, fun hopened => ?_, fun he => ?_, fun hl => ?_, fun k hk => ?_, ?_, rfl, fun hidle => ?_,
    fun hrun => ?_⟩
  · have hstate : s.frame.resetRequest.state = .driveOff := if_pos hcommitted
    have hfaulted := foldl_entered_inputCauses (f := s.frame.resetRequest) s.inputs s.clock (by rw [hstate]; decide)
      (by rw [hstate]; decide) hany
    exact ⟨(congrArg Frame.state hfaulted :), (congrArg Frame.causeSet hfaulted :), (congrArg Frame.firstCause hfaulted :)⟩
  · have hstate : s.frame.resetRequest.state = .undefined := if_neg (by rw [hopened]; decide)
    have hstays := foldl_entered_undefined (inputCauses s.inputs) s.clock hstate
    exact ⟨(congrArg Frame.state hstays).trans hstate, (congrArg Frame.causeSet hstays :),
      (congrArg Frame.firstCause hstays :)⟩
  · exact (hrecords .estop).trans (if_pos he)
  · exact (hrecords .limitSwitch).trans (if_pos (by simpa using hl))
  · exact (hrecords k).trans (cabinetRecord_of_not_mem hk)
  · rfl
  · change s.testReset.settleEnds.recs.results = _
    rw [hrecs, hrecsIdle hidle]
  · change s.testReset.settleEnds.recs.test = none ∧ ∃ x, s.testReset.settleEnds.recs.results = _ ∧ _
    rw [hrecs]
    exact hrecsTest hrun

end Sys2Proof.Machine
end

section
/-! Settling the start of a test (spec/08 section 8.2). -/

namespace Sys2Proof.Machine

/-! ### The clamped values and their event (R112, R179) -/

/-- The stages whose rate is clamped, by their indices. -/
theorem clampedStages_eq (vmax : Int) (n : Nat) (gs : List Stage) :
    clampedStages vmax n gs = ((List.range gs.length).filter fun i =>
      gs[i]?.any fun g => decide (g.channel = .position) && decide (vmax < g.rate.natAbs)).map (· + n) := by
  induction gs generalizing n with
  | nil => rfl
  | cons g rest ih =>
    have hrest : ((List.range rest.length).map Nat.succ).filter (fun i =>
        (g :: rest)[i]?.any fun g => decide (g.channel = .position) && decide (vmax < g.rate.natAbs)) =
        ((List.range rest.length).filter fun i =>
          rest[i]?.any fun g => decide (g.channel = .position) && decide (vmax < g.rate.natAbs)).map Nat.succ := by
      rw [List.filter_map]
      rfl
    have hshift (l : List Nat) : (l.map Nat.succ).map (· + n) = l.map (· + (n + 1)) := by
      rw [List.map_map]
      exact List.map_congr_left fun i _ => by simp; omega
    rw [clampedStages, List.length_cons, List.range_succ_eq_map, List.filter_cons, hrest, ih]
    by_cases h : g.channel = .position ∧ vmax < g.rate.natAbs
    · have hyes : (decide (g.channel = .position) && decide (vmax < g.rate.natAbs)) = true := by simpa using h
      simp only [if_pos h, List.getElem?_cons_zero, Option.any_some, hyes, if_true, List.map_cons, hshift, Nat.zero_add]
    · have hno : (decide (g.channel = .position) && decide (vmax < g.rate.natAbs)) = false := by simpa using h
      simp only [if_neg h, List.getElem?_cons_zero, Option.any_some, hno, Bool.false_eq_true, if_false, hshift]

/-- The record of a kind after several occurrences of it. -/
theorem foldl_record_self {k : EventKind} {c : EventClass} (details : List Nat) (s : State) :
    (details.foldl (fun t n => t.record k (BitVec.ofNat 32 n) c) s).events.record k =
      match details, s.events.record k with
      | [], r => r
      | _ :: _, some r => some { r with count := min 255 (r.count + details.length) }
      | n :: _, none =>
        some { count := min 255 details.length, time := s.clock, detail := BitVec.ofNat 32 n, cls := c } := by
  induction details generalizing s with
  | nil => rfl
  | cons n rest ih =>
    rw [List.foldl_cons, ih, record_record_self, Events.oneMore]
    cases hr : s.events.record k with
    | none =>
      cases rest with
      | nil => rfl
      | cons m rest =>
        have hcount : min 255 (1 + (m :: rest).length) = min 255 (n :: m :: rest).length := by
          simp only [List.length_cons]
          omega
        simp only [hcount]
    | some r =>
      cases rest with
      | nil => rfl
      | cons m rest =>
        have hcount : min 255 (min 255 (r.count + 1) + (m :: rest).length) = min 255 (r.count + (n :: m :: rest).length) := by
          simp only [List.length_cons]
          omega
        simp only [hcount]

/-! ### The stages of the running copy -/

/-- The copy keeps the times of STAGE_TIME end conditions. -/
theorem convert_time (g : Stage) (s0 startPos vmax : Int) : (g.convert s0 startPos vmax).time = g.time := by
  have hvalue (e : EndCondition) (h : e.kind = .stageTime) : convertedValue g.channel e s0 startPos = e.value := by
    unfold convertedValue
    rw [h]
  unfold Stage.time Stage.convert
  dsimp only
  cases h1 : g.end1.kind <;> cases h2 : g.end2.kind <;> simp [hvalue, h1, h2]

/-! ### The start of a test -/

section
variable {s : State} {head : Specimen} {p : Program}

theorem enterStage_zero (v : State) :
    v.enterStage 0 0 =
      (v.onSeq fun q => { q with stage := some 0, timeMark := false, timer := v.loadedTimer 0 }).record .stageEntered 0
        .info := by
  rw [State.enterStage]
  simp

/-- The start of a test in records, frame, servo loop and sequencer. -/
def State.enrolled (s : State) (head : Specimen) (copy : Program) (time : Word32) : State :=
  (((s.onRecs fun r =>
    { r with queue := r.queue.tail, test := some { specimen := head, startTime := time, pointMade := false } }).onFrame
      fun f => { f with state := .testing, gateActed := false }).onServo (·.start time)).onSeq (·.start head.slot copy)

/-- The start of a test in force channel, strain source, evaluation, watches and hold control. -/
def State.handedOn (w : State) (head : Specimen) (copy : Program) : State :=
  ((((w.onForce (·.start copy.autoTare)).onStrain (·.start head.parallel)).onEval fun _ =>
    Evaluation.start copy head.s0).onWatches (·.map (·.arm))).onHold fun h => { h with count := 0 }

theorem handedOn_alike (w : State) (head : Specimen) (copy : Program) :
    (w.handedOn head copy).events = w.events ∧ (w.handedOn head copy).clock = w.clock ∧
      (w.handedOn head copy).frame = w.frame ∧ (w.handedOn head copy).seq = w.seq ∧
      (w.handedOn head copy).points = w.points ∧ (w.handedOn head copy).mail = w.mail :=
  ⟨rfl, rfl, rfl, rfl, rfl, rfl⟩

theorem enrolled_alike (r : State) (head : Specimen) (copy : Program) (time : Word32) :
    (r.enrolled head copy time).events = r.events ∧ (r.enrolled head copy time).clock = r.clock ∧
      (r.enrolled head copy time).frame.state = .testing ∧
      (r.enrolled head copy time).seq = r.seq.start head.slot copy ∧
      (r.enrolled head copy time).points = r.points ∧ (r.enrolled head copy time).mail = r.mail :=
  ⟨rfl, rfl, rfl, rfl, rfl, rfl⟩

/-- The state in which the first stage is entered. -/
def State.readied (r : State) (head : Specimen) (copy : Program) (time : Word32) (clamped : List Nat) : State :=
  ((r.enrolled head copy time).raiseClamped clamped).handedOn head copy

theorem readied_alike (r : State) (head : Specimen) (copy : Program) (time : Word32) (clamped : List Nat) :
    let v := r.readied head copy time clamped
    v.events = ((r.enrolled head copy time).raiseClamped clamped).events ∧ v.clock = r.clock ∧ v.frame.state = .testing ∧
      v.seq = r.seq.start head.slot copy ∧ v.points = r.points ∧ v.mail = r.mail := by
  obtain ⟨hevents, hclock, hframe, hseq, hpoints, hmail⟩ :=
    handedOn_alike ((r.enrolled head copy time).raiseClamped clamped) head copy
  obtain ⟨-, hclock', hframe', hseq', hpoints', hmail'⟩ := enrolled_alike r head copy time
  dsimp only [State.readied]
  rw [hevents, hclock, hframe, hseq, hpoints, hmail, raiseClamped_clock, raiseClamped_frame, raiseClamped_seq,
    raiseClamped_points, raiseClamped_mail, hclock', hframe', hseq', hpoints', hmail']
  exact ⟨rfl, rfl, rfl, rfl, rfl, rfl⟩

theorem startTest_eq (s : State) (head : Specimen) (p : Program) : s.startTest head p =
    ((s.settlePast.readied head (p.convert head.s0 s.servo.latest.p s.frame.defn.vmax) s.clock
      (p.clamped s.frame.defn.vmax)).enterStage 0 0).record .testStarted (BitVec.ofNat 32 head.slot) .info := by
  rw [State.startTest, raise_testStarted]
  rfl

/-! ### What a started test holds -/

theorem record_raiseClamped_self (u : State) (clamped : List Nat) :
    (u.raiseClamped clamped).events.record .rateClamped =
      match clamped, u.events.record .rateClamped with
      | [], r => r
      | _ :: _, some r => some { r with count := min 255 (r.count + clamped.length) }
      | n :: _, none =>
        some { count := min 255 clamped.length, time := u.clock, detail := BitVec.ofNat 32 n, cls := .warning } :=
  foldl_record_self clamped u

section
variable {head : Specimen} {copy : Program} {time : Word32} {clamped : List Nat} {d : Word32} (r : State)

theorem oneMore_of_record {e e' : Events} {k : EventKind} (h : e.record k = e'.record k) (time d : Word32)
    (c : EventClass) : e.oneMore k time d c = e'.oneMore k time d c := by
  rw [Events.oneMore, h]
  rfl

/-- The events of a start. -/
theorem started_events (hclock : r.clock = time) :
    let u := ((r.readied head copy time clamped).enterStage 0 0).record .testStarted d .info
    u.events.record .rateClamped = ((r.enrolled head copy time).raiseClamped clamped).events.record .rateClamped ∧
      u.events.record .stageEntered = some (r.events.oneMore .stageEntered time 0 .info) ∧
      u.events.record .testStarted = some (r.events.oneMore .testStarted time d .info) := by
  obtain ⟨hevents, hclock', -⟩ := readied_alike r head copy time clamped
  have hother {k : EventKind} (h : k ≠ .rateClamped) :
      (r.readied head copy time clamped).events.record k = r.events.record k := by
    rw [hevents, raiseClamped_record_ne _ _ h]
    rfl
  refine ⟨?_, ?_, ?_⟩
  · rw [record_record_ne _ (by decide), enterStage_record_ne _ _ _ (by decide), hevents]
  · rw [record_record_ne _ (by decide), enterStage_zero, record_record_self, onSeq_clock, hclock', hclock]
    exact congrArg some (oneMore_of_record (hother (by decide)) ..)
  · rw [record_record_self, enterStage_clock, hclock', hclock]
    refine congrArg some (oneMore_of_record ?_ ..)
    rw [enterStage_record_ne _ _ _ (by decide), hother (by decide)]

/-- The first stage's timer, and the points and notices on their way. -/
theorem started_arrivals :
    let u := ((r.readied head copy time clamped).enterStage 0 0).record .testStarted d .info
    (∀ g, copy.stages[0]? = some g → u.seq.timer = match g.time with
      | none => .stopped
      | some t => .running t) ∧ u.points = r.points ∧ u.mail = r.mail := by
  obtain ⟨-, -, hframe, hseq, hpoints, hmail⟩ := readied_alike r head copy time clamped
  have hprogram : (r.readied head copy time clamped).program = some copy := by
    rw [State.program, hseq]
    rfl
  refine ⟨fun g hg => ?_, ?_, ?_⟩
  · rw [record_seq, enterStage_seq, loadedTimer_of_program hprogram hg, hframe]
    cases g.time <;> simp
  · rw [record_points, enterStage_points, hpoints]
  · rw [record_mail, enterStage_zero, record_mail]
    exact hmail

end

end

/-- The strain source's part of a start, from a state outside a test. -/
theorem strain_start_eq (x : Strain) (parallel : Int) (hf : x.state ≠ .following) (hd : x.state ≠ .derived) :
    x.start parallel = { x with
      parallel := parallel, gapCount := 0, badCount := 0, switchCount := 0, removalStrain := none, ofTest := false
      state := if x.state = .zeroed then .following else if x.state = .removing then .removing else .derived
      pendingSwitch := if x.state = .zeroed then x.pendingSwitch else some 0 } := by
  unfold Strain.start
  cases hx : x.state with
  | following => exact absurd hx hf
  | derived => exact absurd hx hd
  | _ => simp

/-- The stage timer that a stage's end conditions load. -/
theorem timer_of_time (g : Stage) :
    (match g.time with
      | none => .stopped
      | some t => .running t : StageTimer) = match g.end1.kind, g.end2.kind with
      | .stageTime, .stageTime => .running (min g.end1.value.toNat g.end2.value.toNat)
      | .stageTime, _ => .running g.end1.value.toNat
      | _, .stageTime => .running g.end2.value.toNat
      | _, _ => .stopped := by
  unfold Stage.time
  cases g.end1.kind <;> cases g.end2.kind <;> rfl

/-- Settles O20: every block once a TEST_START has passed its checks. -/
theorem testStartHandsTheStartToTheBlocks : Obligations.TestStartHandsTheStartToTheBlocks := by
  intro s tag head rest p hs hready hqueue hresults hslot hgain hext hno hno' hstages vmax clamped
  let copy : Program := p.convert head.s0 s.servo.latest.p s.frame.defn.vmax
  have hchecked : s.startCheck = .passed head p := by
    have hfit : ¬(p.extRequired = true ∧ s.strain.state ≠ .zeroed) := fun h => h.2 (hext h.1)
    simp only [State.startCheck, if_neg (not_not.2 hready), hqueue, if_neg (Nat.not_le.2 hresults), hslot,
      Option.join_some, hgain, if_neg hfit]
  have hexec : exec (.testStart tag) s =
      .next ((s.startTest head p).replying 0x94 tag .ok 0 (idField head.id ++ bytes32 (unsigned32 head.s0))) := by
    rw [exec_testStart tag hs, handleTestStart, hchecked]
    rfl
  have hsettled : s.settleEnds = s := settleEnds_of_not_mem s hno hno'
  have hclamped : p.clamped s.frame.defn.vmax = clamped := by
    rw [Program.clamped, clampedStages_eq]
    simp [clamped, vmax]
  have hcount : min 255 clamped.length = clamped.length := by
    have hfilter := List.length_filter_le (fun n =>
      p.stages[n]?.any fun g => decide (g.channel = .position) && decide (vmax < g.rate.natAbs)) (List.range p.stages.length)
    have hreturn : (if vmax < p.returnSpeed then [12] else []).length ≤ 1 := by split <;> simp
    rw [List.length_range] at hfilter
    simp only [clamped, List.length_append]
    omega
  have hclock : s.settlePast.clock = s.clock := settlePast_clock s
  have hevents := started_events (head := head) (copy := copy) (clamped := p.clamped s.frame.defn.vmax)
    (d := BitVec.ofNat 32 head.slot) s.settlePast hclock
  have harrivals := started_arrivals (head := head) (copy := copy) (time := s.clock) (clamped := p.clamped s.frame.defn.vmax)
    (d := BitVec.ofNat 32 head.slot) s.settlePast
  dsimp only at hevents harrivals
  rw [← startTest_eq] at hevents harrivals
  obtain ⟨hrate, hentered, htold⟩ := hevents
  obtain ⟨htimer, hpoints, hmail⟩ := harrivals
  refine ⟨s.startTest head p, hexec, ?_, startTest_frame s head p, startTest_servo s head p, ?_, ?_, fun hf hd => ?_, ?_,
    fun g hg => ?_, hpoints, ?_, fun i hi => ?_, startTest_hold s head p, ⟨?_, ?_, ?_, ?_⟩, startTest_inputs s head p,
    startTest_clock s head p, startTest_ext s head p, startTest_stream s head p, startTest_pending s head p⟩
  · rw [startTest_recs, hqueue]
    rfl
  · have hseq := startTest_seq s head p
    rw [hseq]
    exact ⟨rfl, rfl, rfl, rfl, rfl, rfl, rfl, rfl, rfl⟩
  · rw [startTest_force, hsettled]
    rfl
  · rw [startTest_strain, settleStrain_of_not_mem s hno]
    exact strain_start_eq s.strain head.parallel hf hd
  · rw [startTest_eval]
    rfl
  · refine (htimer (g.convert head.s0 s.servo.latest.p s.frame.defn.vmax) ?_).trans ?_
    · simp [copy, Program.convert, hg]
    · rw [convert_time]
      exact timer_of_time g
  · have hpast : s.settlePast.mail = s.settleEnds.mail.filter fun n => !n.ofTest := rfl
    rw [hmail, hpast, hsettled]
    exact List.filter_congr fun n _ => by cases n <;> rfl
  · rw [startTest_watches, Vector.getElem_map]
    rfl
  · obtain ⟨hpast, hpastClock, -⟩ := enrolled_alike s.settlePast head copy s.clock
    rw [hrate, hclamped, record_raiseClamped_self, hpast, hpastClock, settlePast_events, hclock, hcount]
    clear_value clamped
    cases clamped <;> cases s.events.record .rateClamped <;> rfl
  · rw [hentered, settlePast_events]
  · rw [htold, settlePast_events]
  · intro k h1 h2 h3
    exact startTest_record_ne s head p h1 h2 h3

end Sys2Proof.Machine
end
